-- ==== Sys2Proof/Word.lean ====
section
/-! DEFINITION. The words of the AJ440: bytes of frames, 16-bit fields, 32-bit parameter words. -/

namespace Sys2Proof

/-- One byte of a frame. -/
abbrev Byte := BitVec 8

/-- One parameter word (R152) or credential code. -/
abbrev Word := BitVec 32

end Sys2Proof
end

