-- ==== Sys2Proof/Syntax.lean ====
section
/-! DEFINITION. The commands of the AJ440: one constructor of `Instr` per row of spec/opcode_table.json, in its order. -/

namespace Sys2Proof

/-- The three slave ports (00_scope.md). -/
inductive Port where
  | office
  | lift
  | field
deriving DecidableEq, Repr

/-- The levels of the input lines as an event finds them (assumption log 4). `gate` has bit n set when gate n is open,
`egress` bit n set when egress-request input n is active. -/
structure Lines where
  svckey : Bool
  fire : Bool
  gate : BitVec 16
  egress : BitVec 16
deriving DecidableEq, Repr

/-- Which part of a frame an event is (R169; assumption log 3). -/
inductive FramePart where
  /-- The falling edge of xSEL, every byte, and the rising edge, in one event. -/
  | whole
  /-- The falling edge of xSEL alone: no byte is clocked yet. -/
  | select
  /-- The falling edge of xSEL and the first bytes. -/
  | opening
  /-- More bytes of the open frame, from the code byte on where none was clocked yet. -/
  | middle
  /-- The last bytes, where there are any left, and the rising edge of xSEL. -/
  | closing
deriving DecidableEq, Repr

/-- A frame as a master clocks it: the port, the bytes after the code byte, and the line levels at the event. -/
structure Frame where
  port : Port
  bytes : List Byte
  part : FramePart
  lines : Lines
deriving DecidableEq, Repr

/-- The commands of the command summary (11.6). -/
inductive Command where
  | null | readState | setClock | profileWrite | profileRead | selectTenant | findTenant | tenantWrite | tenantRead
  | tenantFree | tenantState | assignUnit | releaseUnit | unitRead | unitFloor | unitService | unitAck | rosterRead
  | presenceRemove | overstayAck | loadBegin | loadData | loadAbort | logRead | paramOpen | paramWrite | paramRead
  | paramClose | gatePulse | channelRead | fireClear | fallbackEnter | fallbackRelease | deviceReset | carQuery
  | carFetch | carAlight | carCancel | present | verdictFetch | passed | noPassage | unitContact | stationOnline
  | stationOffline | repeatEnd
deriving DecidableEq, Repr

/-- The commands the part takes. A frame command carries its frame; its code byte is the constructor's own. -/
inductive Instr where
  | null (f : Frame)
  | readState (f : Frame)
  | setClock (f : Frame)
  | profileWrite (f : Frame)
  | profileRead (f : Frame)
  | selectTenant (f : Frame)
  | findTenant (f : Frame)
  | tenantWrite (f : Frame)
  | tenantRead (f : Frame)
  | tenantFree (f : Frame)
  | tenantState (f : Frame)
  | assignUnit (f : Frame)
  | releaseUnit (f : Frame)
  | unitRead (f : Frame)
  | unitFloor (f : Frame)
  | unitService (f : Frame)
  | unitAck (f : Frame)
  | rosterRead (f : Frame)
  | presenceRemove (f : Frame)
  | overstayAck (f : Frame)
  | loadBegin (f : Frame)
  | loadData (f : Frame)
  | loadAbort (f : Frame)
  | logRead (f : Frame)
  | paramOpen (f : Frame)
  | paramWrite (f : Frame)
  | paramRead (f : Frame)
  | paramClose (f : Frame)
  | gatePulse (f : Frame)
  | channelRead (f : Frame)
  | fireClear (f : Frame)
  | fallbackEnter (f : Frame)
  | fallbackRelease (f : Frame)
  | deviceReset (f : Frame)
  | carQuery (f : Frame)
  | carFetch (f : Frame)
  | carAlight (f : Frame)
  | carCancel (f : Frame)
  | present (f : Frame)
  | verdictFetch (f : Frame)
  | passed (f : Frame)
  | noPassage (f : Frame)
  | unitContact (f : Frame)
  | stationOnline (f : Frame)
  | stationOffline (f : Frame)
  /-- Code FF on a port outside repeat mode (R174). -/
  | repeatEnd (f : Frame)
  /-- A frame whose first byte is FF on a port in repeat mode (R174). -/
  | repeatModeLeave (f : Frame)
  /-- A frame released inside a byte (R170): `bytes` are the whole bytes clocked since the last event of the frame open at
  the port or, where none is open, all of the frame's, its code byte first. -/
  | framing (port : Port) (bytes : List Byte)
  /-- A frame whose code is not in the command table (R170). -/
  | unknownCommand (code : Byte) (f : Frame)
  | gateContactOpen (channel : Fin 16)
  | gateContactClose (channel : Fin 16)
  /-- The egress-request input changes to active, or (`active` false) returns to inactive, which does nothing (R120). -/
  | egressRequest (channel : Fin 16) (active : Bool)
  | fireInputActive
  | fireInputInactive
  | rstAssert
  | pinReset (lines : Lines)
  /-- `checkPasses` is the outcome of the table memory check (R161). -/
  | coldReset (lines : Lines) (checkPasses : Bool)
  | retentionReset (lines : Lines) (checkPasses : Bool)
  | mainPowerLoss
  | secondTick
  | minuteTick
  | entryDecision
  | exitDecision
  | zoneDecision
  | carDecision
  /-- `svckey` is the SVCKEY level at the examination (R9). -/
  | loaderExamine (svckey : Bool)
  | releaseTimerExpiry (channel : Fin 16)
  | heldOpenTimerExpiry (channel : Fin 16)
  | pickTimerExpiry (channel : Fin 16)
  | passageWindowDeadline (station : Fin 64)
  | tripDeadline (car : Fin 4)
  | editWindowExpiry
  | integritySweep
  /-- `v` is the sampled supply in units of 50 mV (R136). -/
  | supplySample (v : Fin 1024)
  | pwmPeriodStart
  | vbatBelowHoldingLevel
deriving DecidableEq, Repr

end Sys2Proof
end

