-- ==== Sys2Proof/Decode.lean ====
section
/-! DEFINITION. Words of the opcode table. No row of spec/opcode_table.json gives bits, so no word spells a command; the bytes
of a frame are read by Machine/Operands.lean and Machine/Frames.lean. -/

namespace Sys2Proof

/-- The command that a word of the table spells: none, since the table gives no row any bits. -/
def decodeTableWord (_nbits _w : Nat) : Option Instr := none

end Sys2Proof
end

