-- ==== Sys2Proof/Config.lean ====
section
/-! DEFINITION. What is fixed for the part: its capacities (00_scope.md) and the one value its manual leaves open. -/

namespace Sys2Proof.Config

/-- Tenant slots 0..2047. -/
abbrev tenantSlots : Nat := 2048
/-- Rented units 0..3071. -/
abbrev unitCount : Nat := 3072
/-- Floors 0..15. -/
abbrev floors : Nat := 16
/-- Access profiles 0..15. -/
abbrev profileCount : Nat := 16
/-- Units per tenant (R7). -/
abbrev unitsPerTenant : Nat := 8
/-- Reader stations 0..63. -/
abbrev stationCount : Nat := 64
/-- Lift cars 0..3. -/
abbrev carCount : Nat := 4
/-- Gate channels 0..15. -/
abbrev channelCount : Nat := 16
/-- Presence records and roster places (R41). -/
abbrev rosterCapacity : Nat := 256
/-- Event log records (R165). -/
abbrev logCapacity : Nat := 512
/-- Records in the bulk loader's buffer (R139). -/
abbrev loaderBuffer : Nat := 4
/-- Parameter words 0..51. -/
abbrev paramWords : Nat := 52
/-- Minutes of one week (R24). -/
abbrev weekMinutes : Nat := 10080
/-- Microseconds in the units the timers are given in: a tenth, a second, 10 ms; one PWM period (R134); the sweep (R157). -/
abbrev tenth : Nat := 100000
/-- One second in microseconds. -/
abbrev second : Nat := 1000000
/-- The 10 ms unit of pick times and supply samples in microseconds. -/
abbrev centisecond : Nat := 10000
/-- One PWM period in microseconds (R134). -/
abbrev pwmPeriod : Nat := 256
/-- The sweep interval of 100 ms in microseconds (R157). -/
abbrev sweepInterval : Nat := 100000
/-- The edit window's 60 s (R153) in microseconds. -/
abbrev editWindow : Nat := 60000000

/-- FREE VALUE (assumption log 13). The byte shifted out during the second argument byte of a read with two argument
bytes: R169 gives byte 1, the data and what follows the data, and says nothing of this byte. Each draw takes the next
number of `State.fills`. -/
opaque argumentFill : Nat → Byte

end Sys2Proof.Config
end

