-- ==== Sys2Proof/Machine/State.lean ====
section
/-! DEFINITION. The state of the AJ440 block by block, what can stop it, and the state after reset. Plain data throughout.
A collection numbered by index is a list of (index, record) pairs in one canonical form: indexes strictly rising and no
record equal to the COLD record, which is what an unlisted index reads as (Machine/Table.lean, assumption log 17). -/

namespace Sys2Proof.Machine

/-- What stops the machine. The spec names nothing that does: no constructor. -/
inductive Fault where
deriving DecidableEq, Repr

/-- What the model refuses. -/
inductive Refusal where
  /-- Raised by `exec` for a command whose meaning is not written yet; safe, since nothing is claimed of it. No arm of
  `exec` raises it any longer. -/
  | notModelled (mnemonic : String)
deriving DecidableEq, Repr

/-! ## Rights tables (chapter 1) -/

/-- R1. -/
inductive TenantState where
  | free | active | overlocked | suspended
deriving DecidableEq, Repr

inductive Role where
  | tenant | staff
deriving DecidableEq, Repr

/-- R3: the digit count belongs to KEYPAD alone, so equality of credentials is equality of this type. -/
inductive Credential where
  | keypad (digits : Nat) (code : Word)
  | card (code : Word)
deriving DecidableEq, Repr

/-- One tenant slot (R1). -/
structure TenantRecord where
  state : TenantState
  enrolment : BitVec 8
  role : Role
  credential : Credential
  profile : Nat
  extended : Bool
  units : List Nat
deriving DecidableEq, Repr

/-- The COLD values of a tenant slot (R2). -/
def TenantRecord.cold : TenantRecord :=
  { state := .free, enrolment := 0, role := .tenant, credential := .card 0, profile := 0, extended := false, units := [] }

/-- R103. -/
inductive AlarmCause where
  | openedArmed | openedOverlocked | openedVacant | leftOpen
deriving DecidableEq, Repr

/-- R103: the alarm cause is present in ALARM and absent in every other arm state. -/
inductive ArmState where
  | vacant | armed | disarmed | overlock
  | alarm (cause : AlarmCause)
  | service
deriving DecidableEq, Repr

/-- The shutter contact of a unit (R103). -/
inductive Contact where
  | closed | opened | unknown
deriving DecidableEq, Repr

/-- One unit (R6) with its visit mark (R104). -/
structure UnitRecord where
  floor : Nat
  tenant : Option Nat
  arm : ArmState
  contact : Contact
  visit : Bool
deriving DecidableEq, Repr

/-- The COLD values of a unit (R6, R104). -/
def UnitRecord.cold : UnitRecord :=
  { floor := 0, tenant := none, arm := .vacant, contact := .unknown, visit := false }

/-- A window of a profile (R8, R35). -/
structure Window where
  start : Nat
  stop : Nat
deriving DecidableEq, Repr

inductive ProfileKind where
  | anytime | windowed
deriving DecidableEq, Repr

/-- One profile (R8): its windows are numbered 0..3 by position. -/
structure ProfileRecord where
  kind : ProfileKind
  windows : List Window
deriving DecidableEq, Repr

/-- The COLD values of a profile (R8). -/
def ProfileRecord.cold : ProfileRecord :=
  { kind := .anytime, windows := [⟨0, 0⟩, ⟨0, 0⟩, ⟨0, 0⟩, ⟨0, 0⟩] }

/-! ## Site clock (chapter 2) -/

/-- The site phase with the site grace counter, present only in CLOSING (R28). -/
inductive Phase where
  | opened
  | closing (grace : Nat)
  | closed
deriving DecidableEq, Repr

structure Clock where
  minute : Nat
  seconds : Nat
  phase : Phase
deriving DecidableEq, Repr

/-! ## Roster (chapter 3) -/

inductive PresenceState where
  | onSite | overstay
deriving DecidableEq, Repr

/-- One presence record (R40). -/
structure Presence where
  slot : Nat
  arrival : Nat
  floor : Nat
  state : PresenceState
  countdown : Option Nat
deriving DecidableEq, Repr

/-- The reservation of a passage or trip (R43): a roster place, a floor claim, both or neither. -/
structure Reservation where
  slot : Nat
  place : Bool
  claim : Option Nat
deriving DecidableEq, Repr

/-! ## Stations and cars (chapters 4 and 5) -/

inductive StationType where
  | none | entry | exit | zone
deriving DecidableEq, Repr

/-- The effective configuration of a station (R61). -/
structure StationConfig where
  type : StationType
  floor : Nat
  channel : Option Nat
deriving DecidableEq, Repr

/-- The request buffer of a station slot (R62). -/
structure Request where
  credential : Credential
  config : StationConfig
deriving DecidableEq, Repr

/-- The tenant slot and enrolment captured at a grant (R4, R74). -/
structure Holder where
  slot : Nat
  enrolment : BitVec 8
deriving DecidableEq, Repr

inductive PassageKind where
  | entry | exit | zone
deriving DecidableEq, Repr

/-- The governor of a passage, with the window deadline when it is WINDOW (R74, R75). -/
inductive Governor where
  | release
  | window (deadline : Nat)
deriving DecidableEq, Repr

/-- A captured passage (R74). `holder` is none for a grant that names no tenant; `reservation` is none for EXIT. -/
structure Passage where
  kind : PassageKind
  destination : Option Nat
  channel : Option Nat
  holder : Option Holder
  reservation : Option Reservation
  governor : Governor
  opened : Bool
deriving DecidableEq, Repr

/-- The deny reasons of the decision stages (11.7). -/
inductive DenyReason where
  | fire | fallback | unknown | suspended | overlocked | closed | hours | noUnits | passback | notOnSite | floor
  | inTransit | rosterFull | zoneFull | gateLocked
deriving DecidableEq, Repr

/-- A station verdict: GRANT with its release time in tenths, or DENY with its reason (R62). -/
inductive StationOutcome where
  | grant (release : Nat)
  | deny (reason : DenyReason)
deriving DecidableEq, Repr

structure StationVerdict where
  outcome : StationOutcome
  tenant : Option Nat
  unfetched : Bool
deriving DecidableEq, Repr

/-- The state of a station slot, with the request buffer in PENDING and the captured passage in PASSAGE (R62). -/
inductive SlotState where
  | offline
  | ready
  | pending (r : Request)
  | passage (p : Passage)
deriving DecidableEq, Repr

structure StationSlot where
  state : SlotState
  verdict : Option StationVerdict
deriving DecidableEq, Repr

/-- A station slot after every kind of reset (R62). -/
def StationSlot.cold : StationSlot := { state := .offline, verdict := none }

structure CarRequest where
  credential : Credential
  floor : Nat
deriving DecidableEq, Repr

/-- A captured trip (R89). -/
structure Trip where
  holder : Option Holder
  destination : Nat
  reservation : Option Reservation
  deadline : Nat
deriving DecidableEq, Repr

inductive CarState where
  | idle
  | pending (r : CarRequest)
  | trip (t : Trip)
deriving DecidableEq, Repr

inductive CarOutcome where
  | grant
  | deny (reason : DenyReason)
deriving DecidableEq, Repr

/-- A car verdict (R89); `reachable` lists the reachable-floor set in rising order (R93). -/
structure CarVerdict where
  outcome : CarOutcome
  tenant : Option Nat
  destination : Nat
  reachable : List Nat
  unfetched : Bool
deriving DecidableEq, Repr

structure CarSlot where
  state : CarState
  verdict : Option CarVerdict
deriving DecidableEq, Repr

/-- A car slot after every kind of reset (R89). -/
def CarSlot.cold : CarSlot := { state := .idle, verdict := none }

/-! ## Gate channels and strike drive (chapter 7) -/

inductive ChannelState where
  | secure | released | passing | propped | forced | unlocked
deriving DecidableEq, Repr

inductive ChannelMode where
  | locked | decision | schedule | free
deriving DecidableEq, Repr

inductive Drive where
  | off | pick | hold
deriving DecidableEq, Repr

/-- One gate channel (R118). `gateOpen` is the contact OPEN; each timer is the moment on `State.now` at which it expires,
or absent (assumption log 6); `egress` is the egress-request level as last taken. -/
structure Channel where
  state : ChannelState
  gateOpen : Bool
  drive : Drive
  releaseTimer : Option Nat
  heldOpenTimer : Option Nat
  pickTimer : Option Nat
  carried : Option Nat
  egress : Bool
deriving DecidableEq, Repr

/-- A channel that is SECURE with the gate shut and the egress-request input inactive. -/
def Channel.cold : Channel :=
  { state := .secure, gateOpen := false, drive := .off, releaseTimer := none, heldOpenTimer := none, pickTimer := none,
    carried := none, egress := false }

/-- The strike drive (R136 to R138). -/
structure Strike where
  reading : Nat
  duty : Nat
  nextDuty : Option Nat
  lowMark : Bool
  failMark : Bool
  sampleTimer : Nat
deriving DecidableEq, Repr

/-! ## Bulk loader (chapter 8) -/

inductive LoadKind where
  | tenant | unitFloor
deriving DecidableEq, Repr

/-- A TENANT load record, and what TENANT WRITE carries (R13, R141). -/
structure TenantDetails where
  role : Role
  extended : Bool
  credential : Credential
  profile : Nat
deriving DecidableEq, Repr

inductive LoadRecord where
  | tenant (d : TenantDetails) (units : List Nat)
  | floor (f : Nat)
deriving DecidableEq, Repr

/-- The loader record (R139). -/
structure Loader where
  active : Bool
  kind : LoadKind
  count : Nat
  nextTarget : Nat
  committed : Nat
  skipped : Nat
  remaining : Nat
  buffer : List LoadRecord
deriving DecidableEq, Repr

/-! ## Mode control and restarts (chapter 9) -/

inductive Mode where
  | normal | fallback
deriving DecidableEq, Repr

inductive ResetCause where
  | cold | retention | pin | command
deriving DecidableEq, Repr

/-- Mode control (R149). -/
structure Control where
  mode : Mode
  fireLive : Bool
  fireLatch : Bool
  tableFault : Bool
  resetCause : ResetCause
deriving DecidableEq, Repr

/-- Power and the RST line (R160). `retention` says that VBAT has held the retained memory since main power was lost. -/
structure Power where
  main : Bool
  retention : Bool
  rst : Bool
deriving DecidableEq, Repr

/-- The causes of a MODE record; PARAM_FAULT uses CLOSE, EXPIRY and SWEEP (11.7). -/
inductive ModeCause where
  | command | close | expiry | sweep | release
deriving DecidableEq, Repr

/-! ## Event log (chapter 10) -/

inductive AbandonCause where
  | noOpen | timeout | noPassage | offline | fire | cancel
deriving DecidableEq, Repr

inductive CompletionKind where
  | entry | exit | zone | alight
deriving DecidableEq, Repr

/-- A station or car subject (R166). -/
inductive Subject where
  | station (n : Nat)
  | car (n : Nat)
deriving DecidableEq, Repr

/-- What a channel was restored from (11.7). -/
inductive RestoredFrom where
  | forced | propped
deriving DecidableEq, Repr

/-- The event kinds with what each fills in (R166). -/
inductive Event where
  | entry (station : Nat) (tenant : Option Nat)
  | exit (station : Nat) (tenant : Option Nat)
  | zonePass (floor : Nat) (station : Nat) (tenant : Option Nat)
  | tripDone (floor : Nat) (car : Nat) (tenant : Option Nat)
  | denied (reason : DenyReason) (subject : Subject) (tenant : Option Nat)
  | passback (kind : PassageKind) (station : Nat) (tenant : Option Nat)
  | passageAbandoned (cause : AbandonCause) (station : Nat) (tenant : Option Nat)
  | tripAbandoned (cause : AbandonCause) (car : Nat) (tenant : Option Nat)
  | orphan (kind : CompletionKind) (subject : Subject) (tenant : Nat)
  | unitAlarm (cause : AlarmCause) (unit : Nat) (tenant : Option Nat)
  | unitOpened (unit : Nat) (tenant : Option Nat)
  | unitAck (cause : AlarmCause) (unit : Nat) (tenant : Option Nat)
  | overstay (slot : Nat) (floor : Nat)
  | presenceRemoved (slot : Nat) (floor : Nat)
  | gateForced (channel : Nat)
  | gatePropped (channel : Nat)
  | gateRestored (source : RestoredFrom) (channel : Nat)
  | fireOn
  | fireOff
  | fireCleared
  | supplyLow (v : Nat)
  | supplyFail (v : Nat)
  | supplyOk (v : Nat)
  | loadDone (kind : LoadKind) (committed skipped : Nat)
  | loadAborted (kind : LoadKind) (committed skipped : Nat)
  | paramFault (cause : ModeCause) (sum : Word)
  | paramWarn (channel : Nat) (stations : Nat)
  | mode (cause : ModeCause) (new : Mode)
  | clockSet (before : Nat)
  | siteOpen
  | siteClose (grace : Nat)
  | reset (cause : ResetCause) (mode : Mode) (tableFault : Bool)
deriving DecidableEq, Repr

/-- One event record (R164). -/
structure EventRecord where
  seq : BitVec 16
  minute : Nat
  gap : Bool
  event : Event
deriving DecidableEq, Repr

/-- The log, oldest record first, with the next sequence number (R164, R165). `discards` is the MODEL's count of the records
that appends to a full log have discarded: it tells a record sampled and since discarded from one of equal content (R167;
assumption log 20). -/
structure Log where
  records : List EventRecord
  next : BitVec 16
  discards : Nat
deriving DecidableEq, Repr

/-! ## Ports (chapter 11) -/

/-- The result codes of 11.6. -/
inductive ResultCode where
  | ok | framing | short | unknownCommand | notPermitted | badArgument | busy | full | duplicate | isProtected | notFound
  | noSelection | state | slotBusy | offline | contactOpen | sumBad | tableFault | unitTaken | listFull | onSite
deriving DecidableEq, Repr

/-- What a read command sampled (R169, R170): its result and data, the station or car whose unfetched flag the end of the
frame clears (withdrawn when a new verdict is formed there first, R66, R96), the event records sampled, and the log's count of
discards at their sampling (R167; assumption log 20). -/
structure Sample where
  result : ResultCode
  data : List Byte
  fetch : Option Nat
  records : List EventRecord
  discards : Nat
deriving DecidableEq, Repr

/-- A frame that is open: the bytes clocked in so far and the status byte sampled when it opened (R169, R171). -/
structure OpenFrame where
  wire : List Byte
  status : Byte
  sample : Option Sample
deriving DecidableEq, Repr

/-- A port engine (R171). `out` is the MODEL's record of the bytes shifted out in the last frame taken (assumption log 15). -/
structure PortState where
  lastResult : ResultCode
  repeating : Bool
  assembly : Option OpenFrame
  out : List Byte
deriving DecidableEq, Repr

/-- A port engine after every kind of reset (R171). -/
def PortState.cold : PortState := { lastResult := .ok, repeating := false, assembly := none, out := [] }

/-! ## The whole part -/

structure State where
  /-- Port engines (R171). -/
  office : PortState
  lift : PortState
  field : PortState
  /-- The OFFICE selection cursor (R11). -/
  cursor : Option Nat
  tenants : List (Nat × TenantRecord)
  units : List (Nat × UnitRecord)
  profiles : List (Nat × ProfileRecord)
  clock : Clock
  /-- Presence records, oldest arrival first (R41). -/
  roster : List Presence
  stations : List (Nat × StationSlot)
  cars : List (Nat × CarSlot)
  channels : List (Nat × Channel)
  strike : Strike
  loader : Loader
  /-- Parameter words (R152). -/
  params : List (Nat × Word)
  /-- The window timer's expiry while the edit window is OPEN, none while it is CLOSED (R153). -/
  window : Option Nat
  /-- The sweep timer's expiry, none while it is cancelled (R157). -/
  sweep : Option Nat
  control : Control
  power : Power
  log : Log
  /-- MODEL's own: microseconds of the system clock since the last reset (assumption log 6). -/
  now : Nat
  /-- MODEL's own: how many values of `Config.argumentFill` have been drawn (assumption log 13). -/
  fills : Nat
  /-- MODEL's own: the commands waiting, first in, first out (assumption log 1). -/
  pending : List Instr
deriving DecidableEq, Repr

/-- The part right after a COLD reset (R2, R6, R8, R24, R28, R40, R62, R89, R118, R136, R139, R149, R152, R162, R164, R171).
The input lines are taken as inactive with every gate shut, and the table memory check as passed (assumption logs 5, 14);
RST is inactive and main power present (assumption log 16). The RESET record is the first of the log. -/
def State.reset : State :=
  { office := .cold, lift := .cold, field := .cold, cursor := none,
    tenants := [], units := [], profiles := [],
    clock := { minute := 0, seconds := 0, phase := .closed },
    roster := [], stations := [], cars := [], channels := [],
    strike := { reading := 0, duty := 255, nextDuty := none, lowMark := false, failMark := false, sampleTimer := 10000 },
    loader := { active := false, kind := .tenant, count := 0, nextTarget := 0, committed := 0, skipped := 0, remaining := 0,
                buffer := [] },
    params := [], window := none, sweep := some 100000,
    control := { mode := .fallback, fireLive := false, fireLatch := false, tableFault := false, resetCause := .cold },
    power := { main := true, retention := true, rst := false },
    log :=
      { records := [{ seq := 0, minute := 0, gap := false, event := .reset .cold .fallback false }], next := 1, discards := 0 },
    now := 0, fills := 0, pending := [] }

end Sys2Proof.Machine
end

