-- ==== Sys2Proof/Machine/Table.lean ====
section
/-! DEFINITION. Collections numbered by index, in one canonical form (assumption log 17): (index, record) pairs, indexes
strictly rising, no record equal to the default, which is what an unlisted index reads as. -/

namespace Sys2Proof.Machine

variable {α : Type}

/-- The record at index `i`: the default `d` where none is listed. -/
def Table.get (d : α) : List (Nat × α) → Nat → α
  | [], _ => d
  | e :: rest, i => if e.1 = i then e.2 else Table.get d rest i

/-- The collection with nothing listed at index `i`. -/
def Table.erase (t : List (Nat × α)) (i : Nat) : List (Nat × α) := t.filter fun e => e.1 != i

/-- The collection with `(i, v)` put before the first greater index. -/
def Table.insert (i : Nat) (v : α) : List (Nat × α) → List (Nat × α)
  | [] => [(i, v)]
  | e :: rest => if i < e.1 then (i, v) :: e :: rest else e :: Table.insert i v rest

/-- The collection with record `v` at index `i`; a record equal to the default leaves nothing listed there. -/
def Table.set [DecidableEq α] (d : α) (t : List (Nat × α)) (i : Nat) (v : α) : List (Nat × α) :=
  if v = d then Table.erase t i else Table.insert i v (Table.erase t i)

/-- The canonical form: indexes strictly rising, no record equal to the default. -/
def Table.wf [DecidableEq α] (d : α) (t : List (Nat × α)) : Bool :=
  decide (t.Pairwise fun a b => a.1 < b.1) && t.all fun e => decide (e.2 ≠ d)

end Sys2Proof.Machine
end

