-- ==== Sys2Proof/Machine/Ops.lean ====
section
/-! DEFINITION. The named operations over the state: reading and writing each collection and port, appending to the log,
the parameter fields, and the roster's derived quantities. -/

namespace Sys2Proof.Machine

/-! ## Collections -/

/-- Tenant slot `i` (R1). -/
def State.tenant (s : State) (i : Nat) : TenantRecord := Table.get TenantRecord.cold s.tenants i
def State.setTenant (s : State) (i : Nat) (r : TenantRecord) : State :=
  { s with tenants := Table.set TenantRecord.cold s.tenants i r }

/-- Unit `u` (R6). -/
def State.unit (s : State) (u : Nat) : UnitRecord := Table.get UnitRecord.cold s.units u
def State.setUnit (s : State) (u : Nat) (r : UnitRecord) : State :=
  { s with units := Table.set UnitRecord.cold s.units u r }

/-- Profile `i` (R8). -/
def State.profile (s : State) (i : Nat) : ProfileRecord := Table.get ProfileRecord.cold s.profiles i
def State.setProfile (s : State) (i : Nat) (r : ProfileRecord) : State :=
  { s with profiles := Table.set ProfileRecord.cold s.profiles i r }

/-- Station slot `n` (R62). -/
def State.station (s : State) (n : Nat) : StationSlot := Table.get StationSlot.cold s.stations n
def State.setStation (s : State) (n : Nat) (r : StationSlot) : State :=
  { s with stations := Table.set StationSlot.cold s.stations n r }

/-- Car slot `n` (R89). -/
def State.car (s : State) (n : Nat) : CarSlot := Table.get CarSlot.cold s.cars n
def State.setCar (s : State) (n : Nat) (r : CarSlot) : State :=
  { s with cars := Table.set CarSlot.cold s.cars n r }

/-- Gate channel `c` (R118). -/
def State.channel (s : State) (c : Nat) : Channel := Table.get Channel.cold s.channels c
def State.setChannel (s : State) (c : Nat) (r : Channel) : State :=
  { s with channels := Table.set Channel.cold s.channels c r }

/-- Parameter word `w` as stored (R152). -/
def State.param (s : State) (w : Nat) : Word := Table.get 0 s.params w
def State.setParam (s : State) (w : Nat) (v : Word) : State := { s with params := Table.set 0 s.params w v }

/-! ## Ports, power -/

def State.port (s : State) : Port → PortState
  | .office => s.office
  | .lift => s.lift
  | .field => s.field

def State.setPort (s : State) (p : Port) (v : PortState) : State :=
  match p with
  | .office => { s with office := v }
  | .lift => { s with lift := v }
  | .field => { s with field := v }

def State.setCursor (s : State) (c : Option Nat) : State := { s with cursor := c }

/-- The part takes frames, inputs and timer expiries: RST is inactive (R160) and, DEDUCED (assumption log 11), main power is
present. -/
def State.running (s : State) : Bool := s.power.main && !s.power.rst

/-! ## Blocks -/

def State.setClock (s : State) (c : Clock) : State := { s with clock := c }
def State.setRoster (s : State) (r : List Presence) : State := { s with roster := r }
def State.setStrike (s : State) (k : Strike) : State := { s with strike := k }
def State.setLoader (s : State) (l : Loader) : State := { s with loader := l }
def State.setControl (s : State) (c : Control) : State := { s with control := c }
def State.setPower (s : State) (p : Power) : State := { s with power := p }
def State.setLog (s : State) (l : Log) : State := { s with log := l }

/-- The last index that a fold over `n` numbered items reaches is `n - 1`: `f` is applied to 0, 1, … in turn. -/
def State.forEach (n : Nat) (f : Nat → State → State) (s : State) : State := (List.range n).foldl (fun s i => f i s) s

/-- The value of the first pair whose condition holds: how every ordered list of checks or stages is read. -/
def firstHolding {β : Type} : List (Bool × β) → Option β
  | [] => none
  | c :: rest => if c.1 then some c.2 else firstHolding rest

/-! ## Event log -/

/-- The log with one more record (R165): a full log discards its oldest, which is counted (assumption log 20), and the new record
then carries the gap mark. -/
def Log.append (l : Log) (minute : Nat) (e : Event) : Log :=
  let full := decide (Config.logCapacity ≤ l.records.length)
  { records := (if full then l.records.drop 1 else l.records) ++ [{ seq := l.next, minute, gap := full, event := e }]
    next := l.next + 1
    discards := if full then l.discards + 1 else l.discards }

/-- Appends an event with the minute as it stands (R24, R165). -/
def State.append (s : State) (e : Event) : State := s.setLog (s.log.append s.clock.minute e)

/-! ## Parameter fields, each read as the nearest end of its range (R119, R152) -/

/-- `len` bits of a word from bit `lo` on, as a number. -/
def bitsOf (w : Word) (lo len : Nat) : Nat := (w.extractLsb' lo len).toNat

/-- A number brought to the nearest end of the range `lo..hi`. -/
def clamp (lo hi x : Nat) : Nat := max lo (min hi x)

/-- Grace g in minutes, word 0 bits 7:0. -/
def State.grace (s : State) : Nat := clamp 0 120 (bitsOf (s.param 0) 0 8)

/-- Passback setting, word 0 bits 15:8: 0 OFF, 1 SOFT, 2 STRICT. -/
def State.passback (s : State) : Nat := clamp 0 2 (bitsOf (s.param 0) 8 8)

/-- Protected count P, word 0 bits 23:16. -/
def State.protectedCount (s : State) : Nat := clamp 0 64 (bitsOf (s.param 0) 16 8)

/-- Extended factor k, word 0 bits 31:24. -/
def State.extendedFactor (s : State) : Nat := clamp 1 4 (bitsOf (s.param 0) 24 8)

/-- Open minute of day `d`, words 1..7. -/
def State.openMinute (s : State) (d : Nat) : Nat := clamp 0 1440 (bitsOf (s.param (1 + d)) 0 16)

/-- Close minute of day `d`, words 1..7. -/
def State.closeMinute (s : State) (d : Nat) : Nat :=
  clamp (s.openMinute d) 1440 (bitsOf (s.param (1 + d)) 16 16)

/-- Base release time b in tenths, word 8 low half. -/
def State.baseRelease (s : State) : Nat := clamp 10 250 (bitsOf (s.param 8) 0 16)

/-- Passage window in seconds, word 8 high half. -/
def State.passageWindow (s : State) : Nat := clamp 5 120 (bitsOf (s.param 8) 16 16)

/-- Trip window in seconds, word 9 low half. -/
def State.tripWindow (s : State) : Nat := clamp 30 600 (bitsOf (s.param 9) 0 16)

/-- Held-open time in seconds, word 9 high half. -/
def State.heldOpenTime (s : State) : Nat := clamp 5 600 (bitsOf (s.param 9) 16 16)

/-- Pick time in units of 10 ms, word 10 low half. -/
def State.pickTime (s : State) : Nat := clamp 5 100 (bitsOf (s.param 10) 0 16)

/-- Hold voltage H in units of 50 mV, word 10 high half. -/
def State.holdVoltage (s : State) : Nat := clamp 0 1000 (bitsOf (s.param 10) 16 16)

/-- Limit of floor `f`, byte f mod 4 of word 11 + f div 4 (R46). -/
def State.floorLimit (s : State) (f : Nat) : Nat := bitsOf (s.param (11 + f / 4)) (8 * (f % 4)) 8

/-- The half word of station `n` in the station map, words 15..46. -/
def State.mapType (s : State) (n : Nat) : StationType :=
  match bitsOf (s.param (15 + n / 2)) (16 * (n % 2)) 2 with
  | 0 => .none
  | 1 => .entry
  | 2 => .exit
  | _ => .zone

def State.mapFloor (s : State) (n : Nat) : Nat := bitsOf (s.param (15 + n / 2)) (16 * (n % 2) + 4) 4

/-- The channel field of station `n`; 16..31 means none. -/
def State.mapChannel (s : State) (n : Nat) : Nat := bitsOf (s.param (15 + n / 2)) (16 * (n % 2) + 8) 5

/-- Station `n` is of a type other than NONE and its map entry names channel `c`. -/
def State.namesChannel (s : State) (c n : Nat) : Bool := s.mapType n != .none && s.mapChannel n == c

/-- The effective configuration of station `n` (R61): no channel for a field of 16..31, nor for a channel that a
lower-numbered station of a type other than NONE names. -/
def State.effectiveConfig (s : State) (n : Nat) : StationConfig :=
  let c := s.mapChannel n
  { type := s.mapType n, floor := s.mapFloor n,
    channel := if Config.channelCount ≤ c || (List.range n).any (s.namesChannel c) then none else some c }

/-- The mode byte of channel `c` as stored, words 47..50 (R119). -/
def State.modeByte (s : State) (c : Nat) : Byte := (s.param (47 + c / 4)).extractLsb' (8 * (c % 4)) 8

def State.channelMode (s : State) (c : Nat) : ChannelMode :=
  match (s.modeByte c).toNat % 4 with
  | 0 => .locked
  | 1 => .decision
  | 2 => .schedule
  | _ => .free

def State.fireSecure (s : State) (c : Nat) : Bool := (s.modeByte c).getLsbD 2

/-- The sum of words 0..51 as stored, modulo 2^32 (R151, R156). -/
def State.blockSum (s : State) : Word := (List.range Config.paramWords).foldl (fun a w => a + s.param w) 0

/-- The block is good: its sum is FFFFFFFF. -/
def State.blockGood (s : State) : Bool := s.blockSum == 0xFFFFFFFF

/-- A tenant slot in the protected range (R9). -/
def State.isProtected (s : State) (slot : Nat) : Bool := decide (slot < s.protectedCount)

/-! ## Roster and reservations: derived quantities (chapter 3) -/

/-- The presence record of a tenant slot. -/
def State.presence (s : State) (slot : Nat) : Option Presence := s.roster.find? fun p => p.slot == slot

/-- A tenant is present when the roster holds a record for its slot (R41). -/
def State.isPresent (s : State) (slot : Nat) : Bool := (s.presence slot).isSome

/-- A tenant is present on floor `f`. -/
def State.presentOn (s : State) (slot f : Nat) : Bool := (s.presence slot).any fun p => p.floor == f

def StationSlot.reservation (x : StationSlot) : Option Reservation :=
  match x.state with
  | .passage p => p.reservation
  | _ => none

def CarSlot.reservation (x : CarSlot) : Option Reservation :=
  match x.state with
  | .trip t => t.reservation
  | _ => none

/-- Every reservation held, in station and then car order (R43). -/
def State.reservations (s : State) : List Reservation :=
  (List.range Config.stationCount).filterMap (fun n => (s.station n).reservation) ++
    (List.range Config.carCount).filterMap fun n => (s.car n).reservation

/-- The tenant slot holds a reservation (R43). -/
def State.holdsReservation (s : State) (slot : Nat) : Bool := s.reservations.any fun r => r.slot == slot

/-- Roster places held by reservations (R45). -/
def State.placesHeld (s : State) : Nat := s.reservations.countP fun r => r.place

/-- Floor claims on `f` (R46). -/
def State.claimsOn (s : State) (f : Nat) : Nat := s.reservations.countP fun r => r.claim == some f

/-- Occupancy of floor `f` (R46). -/
def State.occupancy (s : State) (f : Nat) : Nat := s.roster.countP (fun p => p.floor == f) + s.claimsOn f

/-- A roster place is available (R45). -/
def State.placeAvailable (s : State) : Bool := decide (s.roster.length + s.placesHeld < Config.rosterCapacity)

/-- A claim on floor `f` is allowed (R46). -/
def State.claimAllowed (s : State) (f : Nat) : Bool :=
  decide (s.floorLimit f = 0) || decide (s.occupancy f + 1 ≤ s.floorLimit f)

end Sys2Proof.Machine
end

