-- ==== Sys2Proof/Machine/Operands.lean ====
section
/-! DEFINITION. The argument bytes of frames (R175, 11.7, 11.8): reading numbers, enumerated values, credentials and load
records out of them, and writing numbers into the bytes a frame shifts out. Argument byte 0 is the byte after the code. -/

namespace Sys2Proof.Machine

/-! ## Bytes -/

/-- Argument byte `i`; 0 beyond the end, which the length check of R170 keeps from being read. -/
def byteAt (bs : List Byte) (i : Nat) : Byte := bs.getD i 0

def natAt (bs : List Byte) (i : Nat) : Nat := (byteAt bs i).toNat

/-- The two-byte number from byte `i` on, most significant byte first (R169). -/
def wordAt (bs : List Byte) (i : Nat) : Nat := natAt bs i * 256 + natAt bs (i + 1)

/-- The 32-bit value from byte `i` on, most significant byte first. -/
def longAt (bs : List Byte) (i : Nat) : Word :=
  BitVec.ofNat 32 (((natAt bs i * 256 + natAt bs (i + 1)) * 256 + natAt bs (i + 2)) * 256 + natAt bs (i + 3))

/-- The two-byte numbers from byte `i` on, `n` of them. -/
def wordsAt (bs : List Byte) (i n : Nat) : List Nat := (List.range n).map fun k => wordAt bs (i + 2 * k)

def byteOf (n : Nat) : Byte := BitVec.ofNat 8 n

/-- A number as two bytes, most significant first. -/
def wordBytes (n : Nat) : List Byte := [byteOf (n / 256), byteOf n]

/-- A 32-bit value as four bytes, most significant first. -/
def longBytes (w : Word) : List Byte := [w.extractLsb' 24 8, w.extractLsb' 16 8, w.extractLsb' 8 8, w.extractLsb' 0 8]

/-- A tenant slot as it is shifted out: FFFF for none (R175). -/
def slotBytes (t : Option Nat) : List Byte := wordBytes (t.getD 0xFFFF)

/-- A one-byte field that may be absent: FF for absent (R175). -/
def fieldByte (x : Option Nat) : Byte := byteOf (x.getD 0xFF)

/-- The number of a station, car or channel byte: bits 6:0 (R175). -/
def numberOf (b : Byte) : Nat := b.toNat % 128

/-- The repeat flag of PRESENT and CAR QUERY: bit 7 of the first argument byte (R174). -/
def repeatFlag (b : Byte) : Bool := b.getLsbD 7

/-! ## Credentials (R3) -/

/-- The kind-and-digits byte and the code as a credential: none for an undefined kind or an invalid KEYPAD credential. For
CARD the digit count is taken as absent. -/
def credentialOf (kindDigits : Byte) (code : Word) : Option Credential :=
  let d := kindDigits.toNat % 16
  match kindDigits.toNat / 16 with
  | 0 => if decide (4 ≤ d) && decide (d ≤ 8) && decide (code.toNat < 10 ^ d) then some (.keypad d code) else none
  | 1 => some (.card code)
  | _ => none

/-- A credential is valid (R3). -/
def Credential.valid : Credential → Bool
  | .keypad d code => decide (4 ≤ d) && decide (d ≤ 8) && decide (code.toNat < 10 ^ d)
  | .card _ => true

/-- The kind-and-digits byte of a credential; the digit count of CARD is shifted out as 0. -/
def Credential.kindByte : Credential → Byte
  | .keypad d _ => byteOf d
  | .card _ => 0x10

def Credential.code : Credential → Word
  | .keypad _ c => c
  | .card c => c

/-! ## Enumerated values (11.7) -/

def roleOf (b : Byte) : Option Role :=
  match b.toNat % 4 with
  | 0 => some .tenant
  | 1 => some .staff
  | _ => none

def Role.code : Role → Nat
  | .tenant => 0
  | .staff => 1

/-- Bit 7 of the role-and-extended byte. -/
def extendedOf (b : Byte) : Bool := b.getLsbD 7

/-- The role-and-extended byte; its unused bits are 0. -/
def roleByte (r : Role) (extended : Bool) : Byte := byteOf (r.code + if extended then 0x80 else 0)

/-- The states TENANT STATE may carry: FREE and undefined values are none (R16). -/
def newStateOf (b : Byte) : Option TenantState :=
  match b.toNat with
  | 1 => some .active
  | 2 => some .overlocked
  | 3 => some .suspended
  | _ => none

def TenantState.code : TenantState → Nat
  | .free => 0
  | .active => 1
  | .overlocked => 2
  | .suspended => 3

def profileKindOf (b : Byte) : Option ProfileKind :=
  match b.toNat with
  | 0 => some .anytime
  | 1 => some .windowed
  | _ => none

def ProfileKind.code : ProfileKind → Nat
  | .anytime => 0
  | .windowed => 1

/-- The contact a report carries; UNKNOWN is shifted out only. -/
def contactOf (b : Byte) : Option Contact :=
  match b.toNat with
  | 0 => some .closed
  | 1 => some .opened
  | _ => none

def Contact.code : Contact → Nat
  | .closed => 0
  | .opened => 1
  | .unknown => 2

/-- The setting of UNIT SERVICE: off, on. -/
def settingOf (b : Byte) : Option Bool :=
  match b.toNat with
  | 0 => some false
  | 1 => some true
  | _ => none

def loadKindOf (b : Byte) : Option LoadKind :=
  match b.toNat with
  | 0 => some .tenant
  | 1 => some .unitFloor
  | _ => none

def LoadKind.code : LoadKind → Nat
  | .tenant => 0
  | .unitFloor => 1

def ArmState.code : ArmState → Nat
  | .vacant => 0
  | .armed => 1
  | .disarmed => 2
  | .overlock => 3
  | .alarm _ => 4
  | .service => 5

def AlarmCause.code : AlarmCause → Nat
  | .openedArmed => 1
  | .openedOverlocked => 2
  | .openedVacant => 3
  | .leftOpen => 4

def PresenceState.code : PresenceState → Nat
  | .onSite => 0
  | .overstay => 1

def Phase.code : Phase → Nat
  | .opened => 0
  | .closing _ => 1
  | .closed => 2

/-- The site grace counter, absent outside CLOSING. -/
def Phase.graceCounter : Phase → Option Nat
  | .closing g => some g
  | _ => none

def DenyReason.code : DenyReason → Nat
  | .fire => 0x01
  | .fallback => 0x02
  | .unknown => 0x03
  | .suspended => 0x04
  | .overlocked => 0x05
  | .closed => 0x06
  | .hours => 0x07
  | .noUnits => 0x08
  | .passback => 0x09
  | .notOnSite => 0x0A
  | .floor => 0x0B
  | .inTransit => 0x0C
  | .rosterFull => 0x0D
  | .zoneFull => 0x0E
  | .gateLocked => 0x0F

def ChannelState.code : ChannelState → Nat
  | .secure => 0
  | .released => 1
  | .passing => 2
  | .propped => 3
  | .forced => 4
  | .unlocked => 5

def Drive.code : Drive → Nat
  | .off => 0
  | .pick => 1
  | .hold => 2

def ResetCause.code : ResetCause → Nat
  | .cold => 0
  | .retention => 1
  | .pin => 2
  | .command => 3

def Mode.code : Mode → Nat
  | .normal => 0
  | .fallback => 1

def ModeCause.code : ModeCause → Nat
  | .command => 1
  | .close => 2
  | .expiry => 3
  | .sweep => 4
  | .release => 5

def AbandonCause.code : AbandonCause → Nat
  | .noOpen => 1
  | .timeout => 2
  | .noPassage => 3
  | .offline => 4
  | .fire => 5
  | .cancel => 6

def CompletionKind.code : CompletionKind → Nat
  | .entry => 1
  | .exit => 2
  | .zone => 3
  | .alight => 4

/-- The station type codes of PASSBACK; it is appended for ENTRY and EXIT alone (R166). -/
def PassageKind.code : PassageKind → Nat
  | .entry => 1
  | .exit => 2
  | .zone => 3

def RestoredFrom.code : RestoredFrom → Nat
  | .forced => 1
  | .propped => 2

def ResultCode.code : ResultCode → Nat
  | .ok => 0x00
  | .framing => 0x01
  | .short => 0x02
  | .unknownCommand => 0x03
  | .notPermitted => 0x04
  | .badArgument => 0x05
  | .busy => 0x06
  | .full => 0x07
  | .duplicate => 0x08
  | .isProtected => 0x09
  | .notFound => 0x0A
  | .noSelection => 0x0B
  | .state => 0x0C
  | .slotBusy => 0x0D
  | .offline => 0x0E
  | .contactOpen => 0x0F
  | .sumBad => 0x10
  | .tableFault => 0x11
  | .unitTaken => 0x12
  | .listFull => 0x13
  | .onSite => 0x14

/-! ## Records carried in -/

/-- What TENANT WRITE and a TENANT load record carry from byte `i` on: the role-and-extended byte, the kind-and-digits
byte, the profile and the code. None for an undefined role or kind, an invalid credential or a profile of 16 or more. -/
def detailsAt (bs : List Byte) (i : Nat) : Option TenantDetails :=
  match roleOf (byteAt bs i), credentialOf (byteAt bs (i + 1)) (longAt bs (i + 3)) with
  | some role, some credential =>
    if natAt bs (i + 2) < Config.profileCount then
      some { role, extended := extendedOf (byteAt bs i), credential, profile := natAt bs (i + 2) }
    else none
  | _, _ => none

/-- The bytes that `detailsAt` reads. -/
def TenantDetails.bytes (d : TenantDetails) : List Byte :=
  [roleByte d.role d.extended, d.credential.kindByte, byteOf d.profile] ++ longBytes d.credential.code

/-- The record of a LOAD DATA frame for a load of the given kind; none where the record is refused BAD_ARGUMENT (R141). -/
def loadRecordOf (kind : LoadKind) (bs : List Byte) : Option LoadRecord :=
  match kind with
  | .tenant =>
    if natAt bs 7 ≤ Config.unitsPerTenant then (detailsAt bs 0).map fun d => .tenant d (wordsAt bs 8 (natAt bs 7)) else none
  | .unitFloor => if natAt bs 0 < Config.floors then some (.floor (natAt bs 0)) else none

/-- The profile record of a PROFILE WRITE (R21): kind at byte 1, eight minutes from byte 2 on; none where one is refused. -/
def profileOf (bs : List Byte) : Option ProfileRecord :=
  match profileKindOf (byteAt bs 1) with
  | some kind =>
    if (wordsAt bs 2 8).all (fun m => decide (m < Config.weekMinutes)) then
      some { kind, windows := (List.range 4).map fun k => ⟨wordAt bs (2 + 4 * k), wordAt bs (4 + 4 * k)⟩ }
    else none
  | none => none

end Sys2Proof.Machine
end

