-- ==== Sys2Proof/Machine/Arming.lean ====
section
/-! DEFINITION. Unit shutter arming (chapter 6): the target state, alarms, contact reports, the hand-offs at entry and exit,
overlock, service, assignment and release, and the commands UNIT CONTACT, UNIT ACK and UNIT SERVICE. -/

namespace Sys2Proof.Machine

/-- The target state of unit `u` (R105), by the cases in their order. -/
def State.targetState (s : State) (u : Nat) : ArmState :=
  match (s.unit u).tenant with
  | none => .vacant
  | some t =>
    if (s.tenant t).state ≠ .overlocked then
      if s.isPresent t then .disarmed else .armed
    else if s.isPresent t && (s.unit u).visit then .disarmed else .overlock

/-- Unit `u` takes arm state `a`; becoming DISARMED sets its visit mark (R104). -/
def State.setArm (s : State) (u : Nat) (a : ArmState) : State :=
  s.setUnit u { s.unit u with arm := a, visit := (s.unit u).visit || a == .disarmed }

/-- Unit `u` enters ALARM with a cause, and UNIT_ALARM is appended with the tenant as it stands (R106). -/
def State.raiseAlarm (s : State) (u : Nat) (c : AlarmCause) : State :=
  (s.setArm u (.alarm c)).append (.unitAlarm c u (s.unit u).tenant)

/-- What an opening does in each arm state (R108). -/
def State.opening (s : State) (u : Nat) : State :=
  match (s.unit u).arm with
  | .vacant => s.raiseAlarm u .openedVacant
  | .armed => s.raiseAlarm u .openedArmed
  | .overlock => s.raiseAlarm u .openedOverlocked
  | .disarmed => s.append (.unitOpened u (s.unit u).tenant)
  | .alarm _ => s
  | .service => s

/-- A contact report (R107): an unchanged value does nothing; a change to OPEN acts as `opening`. -/
def State.contactReport (s : State) (u : Nat) (c : Contact) : State :=
  if (s.unit u).contact = c then s
  else
    let s1 := s.setUnit u { s.unit u with contact := c }
    if c = .opened then s1.opening u else s1

/-- The entry hand-off of a tenant slot (R109). -/
def State.entryHandoff (s : State) (slot : Nat) : State :=
  if (s.tenant slot).state = .overlocked then s
  else (s.tenant slot).units.foldl (fun s u => if (s.unit u).arm = .armed then s.setArm u .disarmed else s) s

/-- The move of one unit at the exit hand-off (R110). -/
def State.exitUnit (overlocked : Bool) (s : State) (u : Nat) : State :=
  if (s.unit u).arm = .disarmed then
    if (s.unit u).contact = .opened then s.raiseAlarm u .leftOpen
    else s.setArm u (if overlocked then .overlock else .armed)
  else s

/-- The exit hand-off of a tenant slot (R110): the units move in list order, then every visit mark in the list is cleared. -/
def State.exitHandoff (s : State) (slot : Nat) : State :=
  let units := (s.tenant slot).units
  let s1 := units.foldl (State.exitUnit (decide ((s.tenant slot).state = .overlocked))) s
  units.foldl (fun s u => s.setUnit u { s.unit u with visit := false }) s1

/-- The units' moves at a tenant state change (R112); the new state already stands in the tenant table. -/
def State.overlockChange (s : State) (slot : Nat) (old new : TenantState) : State :=
  if new = .overlocked ∧ old ≠ .overlocked then
    (s.tenant slot).units.foldl (fun s u => if (s.unit u).arm = .armed then s.setArm u .overlock else s) s
  else if old = .overlocked ∧ new ≠ .overlocked then
    (s.tenant slot).units.foldl (fun s u => if (s.unit u).arm = .overlock then s.setArm u (s.targetState u) else s) s
  else s

/-- ALARM or SERVICE: the arm states an assignment or release leaves as they stand. -/
def ArmState.stays : ArmState → Bool
  | .alarm _ => true
  | .service => true
  | _ => false

/-- The arming of an assigned unit (R114), after its tenant has been set. -/
def State.assignArming (s : State) (u : Nat) : State :=
  if (s.unit u).arm.stays then s else s.setArm u (s.targetState u)

/-- The arming of a released unit (R115), after its tenant has become none. -/
def State.releaseArming (s : State) (u : Nat) : State :=
  let s1 := s.setUnit u { s.unit u with visit := false }
  if (s.unit u).arm.stays then s1
  else if (s.unit u).contact = .opened then s1.raiseAlarm u .openedVacant
  else s1.setArm u .vacant

/-- The arm state a unit leaves SERVICE for (R113). -/
def State.endService (s : State) (u : Nat) : State :=
  match s.targetState u with
  | .vacant => if (s.unit u).contact = .opened then s.raiseAlarm u .openedVacant else s.setArm u .vacant
  | .armed => if (s.unit u).contact = .opened then s.raiseAlarm u .openedArmed else s.setArm u .armed
  | .overlock => if (s.unit u).contact = .opened then s.raiseAlarm u .openedOverlocked else s.setArm u .overlock
  | a => s.setArm u a

/-! ## Commands -/

/-- A command's answer: the result of its first failing check with the state untouched, or OK with the new state. -/
def answer (checks : List (Bool × ResultCode)) (s effect : State) : ResultCode × State :=
  match firstHolding checks with
  | some r => (r, s)
  | none => (.ok, effect)

/-- UNIT CONTACT (R107). -/
def runUnitContact (args : List Byte) (s : State) : ResultCode × State :=
  let u := wordAt args 0
  match contactOf (byteAt args 2) with
  | none => (.badArgument, s)
  | some c => answer [(decide (Config.unitCount ≤ u), .badArgument)] s (s.contactReport u c)

/-- UNIT ACK (R111). -/
def runUnitAck (args : List Byte) (s : State) : ResultCode × State :=
  let u := wordAt args 0
  if Config.unitCount ≤ u then (.badArgument, s)
  else
    match (s.unit u).arm with
    | .alarm c =>
      if (s.unit u).contact = .opened then (.contactOpen, s)
      else (.ok, (s.setArm u (s.targetState u)).append (.unitAck c u (s.unit u).tenant))
    | _ => (.state, s)

/-- UNIT SERVICE (R113). -/
def runUnitService (args : List Byte) (s : State) : ResultCode × State :=
  let u := wordAt args 0
  match settingOf (byteAt args 2) with
  | none => (.badArgument, s)
  | some on =>
    answer [(decide (Config.unitCount ≤ u), .badArgument), (on == ((s.unit u).arm == .service), .state)] s
      (if on then s.setArm u .service else s.endService u)

end Sys2Proof.Machine
end

