-- ==== Sys2Proof/Machine/Layouts.lean ====
section
/-! DEFINITION. The records that reads shift out, byte by byte (11.7, 11.8). -/

namespace Sys2Proof.Machine

/-- The tenant transfer record (TENANT READ, R14): 12 + 2n bytes. -/
def tenantBytes (slot : Nat) (r : TenantRecord) : List Byte :=
  wordBytes slot ++ [byteOf r.state.code, roleByte r.role r.extended, r.credential.kindByte, byteOf r.profile] ++
    longBytes r.credential.code ++ [r.enrolment, byteOf r.units.length] ++ r.units.flatMap wordBytes

/-- The alarm cause of an arm state, absent outside ALARM (R103). -/
def ArmState.cause : ArmState → Option AlarmCause
  | .alarm c => some c
  | _ => none

/-- UNIT READ (R19): 6 bytes. -/
def unitBytes (r : UnitRecord) : List Byte :=
  [byteOf r.floor] ++ slotBytes r.tenant ++
    [byteOf r.arm.code, byteOf r.contact.code, fieldByte (r.arm.cause.map AlarmCause.code)]

/-- PROFILE READ (R22): 17 bytes. -/
def profileBytes (r : ProfileRecord) : List Byte :=
  byteOf r.kind.code :: r.windows.flatMap fun w => wordBytes w.start ++ wordBytes w.stop

/-- One presence record (R59): 7 bytes. -/
def presenceBytes (p : Presence) : List Byte :=
  wordBytes p.slot ++ wordBytes p.arrival ++ [byteOf p.floor, byteOf p.state.code, fieldByte p.countdown]

/-! ### Event records (R164, R166) -/

def Event.kindCode : Event → Nat
  | .entry .. => 0x01
  | .exit .. => 0x02
  | .zonePass .. => 0x03
  | .tripDone .. => 0x04
  | .denied .. => 0x05
  | .passback .. => 0x06
  | .passageAbandoned .. => 0x07
  | .tripAbandoned .. => 0x08
  | .orphan .. => 0x09
  | .unitAlarm .. => 0x10
  | .unitOpened .. => 0x11
  | .unitAck .. => 0x12
  | .overstay .. => 0x13
  | .presenceRemoved .. => 0x14
  | .gateForced .. => 0x20
  | .gatePropped .. => 0x21
  | .gateRestored .. => 0x22
  | .fireOn => 0x30
  | .fireOff => 0x31
  | .fireCleared => 0x32
  | .supplyLow .. => 0x33
  | .supplyFail .. => 0x34
  | .supplyOk .. => 0x35
  | .loadDone .. => 0x40
  | .loadAborted .. => 0x41
  | .paramFault .. => 0x42
  | .paramWarn .. => 0x43
  | .mode .. => 0x50
  | .clockSet .. => 0x51
  | .siteOpen => 0x52
  | .siteClose .. => 0x53
  | .reset .. => 0x54

def Subject.code : Subject → Nat
  | .station n => n
  | .car n => 0x0100 + n

/-- The detail field; 0 where the kind does not use it. -/
def Event.detail : Event → Nat
  | .zonePass f _ _ | .tripDone f _ _ => f
  | .denied r _ _ => r.code
  | .passback k _ _ => k.code
  | .passageAbandoned c _ _ | .tripAbandoned c _ _ => c.code
  | .orphan k _ _ => k.code
  | .unitAlarm c _ _ | .unitAck c _ _ => c.code
  | .gateRestored r _ => r.code
  | .loadDone k _ _ | .loadAborted k _ _ => k.code
  | .paramFault c _ => c.code
  | .mode c _ => c.code
  | .reset c _ _ => c.code
  | .entry .. | .exit .. | .unitOpened .. | .overstay .. | .presenceRemoved .. | .gateForced .. | .gatePropped .. | .fireOn
  | .fireOff | .fireCleared | .supplyLow .. | .supplyFail .. | .supplyOk .. | .paramWarn .. | .clockSet .. | .siteOpen
  | .siteClose .. => 0

/-- The subject field; 0 where the kind does not use it. -/
def Event.subject : Event → Nat
  | .entry n _ | .exit n _ | .zonePass _ n _ | .passback _ n _ | .passageAbandoned _ n _ => (Subject.station n).code
  | .tripDone _ n _ | .tripAbandoned _ n _ => (Subject.car n).code
  | .denied _ x _ | .orphan _ x _ => x.code
  | .unitAlarm _ u _ | .unitOpened u _ | .unitAck _ u _ => u
  | .overstay t _ | .presenceRemoved t _ => t
  | .gateForced c | .gatePropped c | .gateRestored _ c | .paramWarn c _ => c
  | .loadDone _ n _ | .loadAborted _ n _ => n
  | .paramFault _ sum => sum.toNat / 65536
  | .fireOn | .fireOff | .fireCleared | .supplyLow .. | .supplyFail .. | .supplyOk .. | .mode .. | .clockSet .. | .siteOpen
  | .siteClose .. | .reset .. => 0

/-- A tenant value: FFFF for none. -/
def tenantValue (t : Option Nat) : Nat := t.getD 0xFFFF

/-- The value field; 0 where the kind does not use it. -/
def Event.value : Event → Nat
  | .entry _ t | .exit _ t | .zonePass _ _ t | .tripDone _ _ t | .denied _ _ t | .passback _ _ t | .passageAbandoned _ _ t
  | .tripAbandoned _ _ t | .unitAlarm _ _ t | .unitOpened _ t | .unitAck _ _ t => tenantValue t
  | .orphan _ _ t => t
  | .overstay _ f | .presenceRemoved _ f => f
  | .supplyLow v | .supplyFail v | .supplyOk v => v
  | .loadDone _ _ n | .loadAborted _ _ n => n
  | .paramFault _ sum => sum.toNat % 65536
  | .paramWarn _ n => n
  | .mode _ m => m.code
  | .clockSet t => t
  | .siteClose g => g
  | .reset _ m fault => m.code + if fault then 2 else 0
  | .gateForced .. | .gatePropped .. | .gateRestored .. | .fireOn | .fireOff | .fireCleared | .siteOpen => 0

/-- One event record (R167): 10 bytes, the gap mark in bit 15 of the minute. -/
def eventBytes (r : EventRecord) : List Byte :=
  wordBytes r.seq.toNat ++ wordBytes (r.minute + if r.gap then 32768 else 0) ++
    [byteOf r.event.kindCode, byteOf r.event.detail] ++ wordBytes r.event.subject ++ wordBytes r.event.value

/-! ### Verdicts, channels, READ STATE -/

/-- VERDICT FETCH (R66): 5 bytes; the reason is 0 for GRANT, the release time 0 for DENY. -/
def verdictBytes (v : StationVerdict) : List Byte :=
  match v.outcome with
  | .grant release => [0x00, 0x00] ++ slotBytes v.tenant ++ [byteOf release]
  | .deny reason => [0x01, byteOf reason.code] ++ slotBytes v.tenant ++ [0x00]

/-- The reachable-floor set as 16 bits, floor F in bit F. -/
def floorBits (fs : List Nat) : Nat := ((List.range Config.floors).filter fun f => fs.contains f).foldl (fun a f => a + 2 ^ f) 0

/-- CAR FETCH (R96): 7 bytes. -/
def carVerdictBytes (v : CarVerdict) : List Byte :=
  (match v.outcome with
    | .grant => [0x00, 0x00]
    | .deny reason => [0x01, byteOf reason.code]) ++
    slotBytes v.tenant ++ [byteOf v.destination] ++ wordBytes (floorBits v.reachable)

/-- The time left until `deadline` in units of `unit` microseconds, rounded up (R133, R163; assumption log 6). -/
def remainingUp (now unit deadline : Nat) : Nat := (deadline - now + (unit - 1)) / unit

/-- CHANNEL READ (R133): 10 bytes. -/
def channelBytes (s : State) (c : Nat) : List Byte :=
  let x := s.channel c
  [s.modeByte c, byteOf x.state.code, byteOf (if x.gateOpen then 1 else 0), byteOf x.drive.code,
    byteOf (if x.egress then 1 else 0)] ++
    wordBytes ((x.releaseTimer.map (remainingUp s.now Config.tenth)).getD 0xFFFF) ++
    wordBytes ((x.heldOpenTimer.map (remainingUp s.now Config.second)).getD 0xFFFF) ++ [fieldByte x.carried]

/-- The flags byte of READ STATE. -/
def stateFlags (s : State) : Byte :=
  byteOf ((if s.control.mode = .fallback then 0x80 else 0) + (if s.control.fireLatch then 0x40 else 0) +
    (if s.control.fireLive then 0x20 else 0) + (if s.control.tableFault then 0x10 else 0) +
    if s.window.isSome then 0x08 else 0)

/-- The loader byte of READ STATE. -/
def loaderByte (l : Loader) : Byte := byteOf ((if l.active then 0x80 else 0) + 16 * l.buffer.length + l.kind.code)

/-- READ STATE (R163): 25 bytes. -/
def stateBytes (s : State) : List Byte :=
  [stateFlags s, byteOf s.control.resetCause.code] ++
    wordBytes ((s.window.map (remainingUp s.now Config.second)).getD 0xFFFF) ++ wordBytes s.clock.minute ++
    [byteOf s.clock.seconds, byteOf s.clock.phase.code, fieldByte s.clock.phase.graceCounter] ++
    wordBytes s.log.records.length ++ [loaderByte s.loader] ++ wordBytes s.loader.count ++ wordBytes s.loader.nextTarget ++
    wordBytes s.loader.committed ++ wordBytes s.loader.skipped ++ wordBytes s.loader.remaining ++
    wordBytes s.strike.reading ++ [byteOf s.strike.duty]

end Sys2Proof.Machine
end

