-- ==== Sys2Proof/Machine/Rights.lean ====
section
/-! DEFINITION. The rights tables (chapter 1): credential lookup, floor sets, the selection cursor, and the tenant, unit and
profile commands. Every check list stands in the order of R10. -/

namespace Sys2Proof.Machine

/-- Slot `i` is in use and holds the credential (R3). -/
def State.holdsCredential (s : State) (c : Credential) (i : Nat) : Bool :=
  (s.tenant i).state != .free && (s.tenant i).credential == c

/-- The slot in use that holds a credential (R12, R68): unique by R3; the lowest-numbered where it is not (log 18). -/
def State.tenantOf (s : State) (c : Credential) : Option Nat := (List.range Config.tenantSlots).find? (s.holdsCredential c)

/-- Floor `f` is in the floor set of a tenant slot (R5). -/
def State.inFloorSet (s : State) (slot f : Nat) : Bool :=
  decide (f < Config.floors) &&
    ((s.tenant slot).role == .staff || f == 0 || (s.tenant slot).units.any fun u => (s.unit u).floor == f)

/-- The floor set of a tenant slot (R5), in rising order. -/
def State.floorSet (s : State) (slot : Nat) : List Nat := (List.range Config.floors).filter (s.inFloorSet slot)

/-- The tenant slot that the cursor names. -/
def State.cursorSlot (s : State) : Nat := s.cursor.getD 0

/-- A load of the given kind is ACTIVE (R147). -/
def State.loading (s : State) (k : LoadKind) : Bool := s.loader.active && s.loader.kind == k

/-- Checks 2 to 4 of R10, which every edit of the cursor slot makes in this order. -/
def State.editChecks (s : State) (svckey : Bool) : List (Bool × ResultCode) :=
  [(s.cursor.isNone, .noSelection), (s.loading .tenant, .busy),
    (s.isProtected s.cursorSlot && !svckey, .isProtected)]

/-- Check 5 of R10: the command needs a slot in use. -/
def State.inUseCheck (s : State) : Bool × ResultCode := ((s.tenant s.cursorSlot).state == .free, .state)

/-! ## Selection -/

/-- SELECT TENANT (R11). -/
def runSelectTenant (args : List Byte) (s : State) : ResultCode × State :=
  answer [(decide (Config.tenantSlots ≤ wordAt args 0), .badArgument)] s (s.setCursor (some (wordAt args 0)))

/-- FIND TENANT (R12). -/
def runFindTenant (args : List Byte) (s : State) : ResultCode × State :=
  match credentialOf (byteAt args 0) (longAt args 1) with
  | none => (.badArgument, s)
  | some c =>
    match s.tenantOf c with
    | none => (.notFound, s)
    | some i => (.ok, s.setCursor (some i))

/-! ## Tenant commands -/

/-- A tenant record leaves FREE or is rewritten with the details carried (R4, R13). -/
def TenantRecord.write (r : TenantRecord) (d : TenantDetails) : TenantRecord :=
  { r with
    state := if r.state = .free then .active else r.state
    enrolment := if r.state = .free then r.enrolment + 1 else r.enrolment
    role := d.role, extended := d.extended, credential := d.credential, profile := d.profile }

/-- Some slot other than `slot` is in use and holds the credential. -/
def State.credentialTaken (s : State) (c : Credential) (slot : Nat) : Bool :=
  (List.range Config.tenantSlots).any fun i => i != slot && s.holdsCredential c i

/-- TENANT WRITE (R13). -/
def runTenantWrite (svckey : Bool) (args : List Byte) (s : State) : ResultCode × State :=
  match detailsAt args 0 with
  | none => (.badArgument, s)
  | some d =>
    answer (s.editChecks svckey ++ [(s.credentialTaken d.credential s.cursorSlot, .duplicate)]) s
      (s.setTenant s.cursorSlot ((s.tenant s.cursorSlot).write d))

/-- One unit is released from its tenant's side and from its own (R7), and its arm state follows (R115). -/
def State.releaseUnit (s : State) (u : Nat) : State :=
  (s.setUnit u { s.unit u with tenant := none }).releaseArming u

/-- TENANT FREE (R15): the list is emptied and the state becomes FREE; the units are released first to last. -/
def State.freeTenant (s : State) (slot : Nat) : State :=
  let r := s.tenant slot
  r.units.foldl State.releaseUnit (s.setTenant slot { r with state := .free, units := [] })

def runTenantFree (svckey : Bool) (s : State) : ResultCode × State :=
  answer (s.editChecks svckey ++ [s.inUseCheck, (s.isPresent s.cursorSlot, .onSite)]) s (s.freeTenant s.cursorSlot)

/-- TENANT STATE (R16) with the moves of R112. -/
def runTenantState (svckey : Bool) (args : List Byte) (s : State) : ResultCode × State :=
  match newStateOf (byteAt args 0) with
  | none => (.badArgument, s)
  | some new =>
    let slot := s.cursorSlot
    answer (s.editChecks svckey ++ [s.inUseCheck]) s
      ((s.setTenant slot { s.tenant slot with state := new }).overlockChange slot (s.tenant slot).state new)

/-! ## Unit commands -/

/-- A unit and a tenant slot are paired on both sides (R7), and the unit's arm state follows (R114). -/
def State.assignUnit (s : State) (slot u : Nat) : State :=
  let s1 := s.setTenant slot { s.tenant slot with units := (s.tenant slot).units ++ [u] }
  (s1.setUnit u { s1.unit u with tenant := some slot }).assignArming u

/-- ASSIGN UNIT (R17). -/
def runAssignUnit (svckey : Bool) (args : List Byte) (s : State) : ResultCode × State :=
  let u := wordAt args 0
  let slot := s.cursorSlot
  answer ((decide (Config.unitCount ≤ u), .badArgument) :: s.editChecks svckey ++
      [s.inUseCheck, ((s.unit u).tenant == some slot, .duplicate), ((s.unit u).tenant.isSome, .unitTaken),
        (decide (Config.unitsPerTenant ≤ (s.tenant slot).units.length), .listFull)]) s
    (s.assignUnit slot u)

/-- RELEASE UNIT (R18). -/
def runReleaseUnit (svckey : Bool) (args : List Byte) (s : State) : ResultCode × State :=
  let u := wordAt args 0
  let slot := s.cursorSlot
  answer ((decide (Config.unitCount ≤ u), .badArgument) :: s.editChecks svckey ++
      [s.inUseCheck, (!(s.tenant slot).units.contains u, .notFound)]) s
    ((s.setTenant slot { s.tenant slot with units := (s.tenant slot).units.filter (· != u) }).releaseUnit u)

/-- UNIT FLOOR (R20). -/
def runUnitFloor (args : List Byte) (s : State) : ResultCode × State :=
  let u := wordAt args 0
  let f := natAt args 2
  answer [(decide (Config.unitCount ≤ u) || decide (Config.floors ≤ f), .badArgument), (s.loading .unitFloor, .busy),
      ((s.unit u).tenant.isSome, .unitTaken)] s
    (s.setUnit u { s.unit u with floor := f })

/-! ## Profile commands -/

/-- PROFILE WRITE (R21). -/
def runProfileWrite (args : List Byte) (s : State) : ResultCode × State :=
  match profileOf args with
  | none => (.badArgument, s)
  | some r => answer [(decide (Config.profileCount ≤ natAt args 0), .badArgument)] s (s.setProfile (natAt args 0) r)

/-! ## Reads: what is sampled (R14, R19, R22) -/

/-- A read refused at its sampling: every data byte is FF (R170). -/
def Sample.refuse (r : ResultCode) : Sample := { result := r, data := [], fetch := none, records := [], discards := 0 }

/-- A read that shifts out the given data. -/
def Sample.give (data : List Byte) : Sample := { result := .ok, data, fetch := none, records := [], discards := 0 }

/-- TENANT READ (R14). -/
def sampleTenantRead (s : State) : Sample :=
  match s.cursor with
  | none => .refuse .noSelection
  | some slot => .give (tenantBytes slot (s.tenant slot))

/-- UNIT READ (R19). -/
def sampleUnitRead (args : List Byte) (s : State) : Sample :=
  if Config.unitCount ≤ wordAt args 0 then .refuse .badArgument else .give (unitBytes (s.unit (wordAt args 0)))

/-- PROFILE READ (R22). -/
def sampleProfileRead (args : List Byte) (s : State) : Sample :=
  if Config.profileCount ≤ natAt args 0 then .refuse .badArgument else .give (profileBytes (s.profile (natAt args 0)))

end Sys2Proof.Machine
end

