-- ==== Sys2Proof/Machine/Roster.lean ====
section
/-! DEFINITION. The on-site roster (chapter 3): orphan checks and completions, closing countdowns, and the commands
PRESENCE REMOVE, OVERSTAY ACK and ROSTER READ. -/

namespace Sys2Proof.Machine

/-- The roster with a slot's record taken out; later records move up (R41). -/
def removePresence (slot : Nat) (r : List Presence) : List Presence := r.filter fun p => p.slot != slot

/-- The roster with a slot's record on another floor (R49, R51). -/
def movePresence (slot f : Nat) (r : List Presence) : List Presence :=
  r.map fun p => if p.slot = slot then { p with floor := f } else p

/-! ## Completions -/

/-- A reservation part present: none where there is no reservation. -/
def placeOf (r : Option Reservation) : Bool := r.any (·.place)
def claimOf (r : Option Reservation) : Option Nat := r.bind (·.claim)

/-- The orphan checks of a completion, in the order of R48. -/
def State.isOrphan (s : State) (kind : CompletionKind) (h : Holder) (r : Option Reservation) : Bool :=
  (s.tenant h.slot).state == .free
    || (s.tenant h.slot).enrolment != h.enrolment
    || ((kind == .zone || kind == .alight) && !s.isPresent h.slot)
    || (kind == .entry && !s.isPresent h.slot && !placeOf r
        && decide (Config.rosterCapacity ≤ s.roster.length + s.placesHeld))
    || (kind == .entry && !s.isPresent h.slot && (claimOf r).isNone && decide (s.floorLimit 0 ≠ 0)
        && decide (s.floorLimit 0 < s.occupancy 0 + 1))

/-- State and countdown of a record appended at an ENTRY completion (R49). -/
def arrivalState (role : Role) (phase : Phase) : PresenceState × Option Nat :=
  match role, phase with
  | .staff, _ => (.onSite, none)
  | .tenant, .opened => (.onSite, none)
  | .tenant, .closing g => (.onSite, some g)
  | .tenant, .closed => (.overstay, none)

/-- The roster's part of an ENTRY completion that passes the checks (R49). -/
def State.enter (s : State) (slot : Nat) : State :=
  if s.isPresent slot then s.setRoster (movePresence slot 0 s.roster)
  else
    let a := arrivalState (s.tenant slot).role s.clock.phase
    let s1 := s.setRoster (s.roster ++ [{ slot, arrival := s.clock.minute, floor := 0, state := a.1, countdown := a.2 }])
    if a.1 = .overstay then s1.append (.overstay slot 0) else s1

/-- The roster's part of a completion that passes the checks (R49 to R51). -/
def State.rosterComplete (s : State) (kind : CompletionKind) (slot dest : Nat) : State :=
  match kind with
  | .entry => s.enter slot
  | .exit => s.setRoster (removePresence slot s.roster)
  | .zone | .alight => s.setRoster (movePresence slot dest s.roster)

/-- What unit arming is handed after a completion that passed the checks (R50, R52): `wasPresent` is the presence before. -/
def State.armingHandoff (s : State) (kind : CompletionKind) (slot : Nat) (wasPresent : Bool) : State :=
  match kind with
  | .entry => s.entryHandoff slot
  | .exit => if wasPresent then s.exitHandoff slot else s
  | .zone | .alight => s

/-- A completion, in the order of R52: the roster change, the completion record `done` or ORPHAN, the hand-off to unit
arming. A grant that named no tenant changes nothing and appends `done`. -/
def State.complete (s : State) (kind : CompletionKind) (h : Option Holder) (r : Option Reservation) (dest : Nat)
    (subject : Subject) (done : Event) : State :=
  match h with
  | none => s.append done
  | some h =>
    if s.isOrphan kind h r then s.append (.orphan kind subject h.slot)
    else ((s.rosterComplete kind h.slot dest).append done).armingHandoff kind h.slot (s.isPresent h.slot)

/-! ## Closing countdowns and overstay -/

/-- The role of a record's holder is TENANT (R42). -/
def State.timed (s : State) (p : Presence) : Bool := (s.tenant p.slot).role == .tenant

/-- Appends an OVERSTAY event for each of the given records, in their order. -/
def State.appendOverstays (s : State) (ps : List Presence) : State :=
  ps.foldl (fun s p => s.append (.overstay p.slot p.floor)) s

/-- A record that turns OVERSTAY has no countdown. -/
def Presence.overstayed (p : Presence) : Presence := { p with state := .overstay, countdown := none }

/-- The roster at the close event with grace `g` (R53). -/
def State.rosterClose (s : State) (g : Nat) : State :=
  let timed := fun p => s.timed p && p.state == .onSite
  if g = 0 then
    (s.setRoster (s.roster.map fun p => if timed p then p.overstayed else p)).appendOverstays (s.roster.filter timed)
  else s.setRoster (s.roster.map fun p => if timed p then { p with countdown := some g } else p)

/-- One record at a closing tick (R54). -/
def Presence.tick (p : Presence) : Presence :=
  match p.countdown with
  | none => p
  | some n => if n ≤ 1 then p.overstayed else { p with countdown := some (n - 1) }

/-- The record's countdown runs out at this closing tick. -/
def Presence.runsOut (p : Presence) : Bool := p.countdown.any fun n => decide (n ≤ 1)

/-- The roster at a closing tick (R54): OVERSTAY events in position order. -/
def State.rosterTick (s : State) : State :=
  (s.setRoster (s.roster.map Presence.tick)).appendOverstays (s.roster.filter Presence.runsOut)

/-- The roster at the open event (R55). -/
def State.rosterOpen (s : State) : State := s.setRoster (s.roster.map fun p => { p with countdown := none })

/-! ## Commands -/

/-- A presence record is taken off by hand (R57). -/
def State.removeByHand (s : State) (p : Presence) : State :=
  ((s.setRoster (removePresence p.slot s.roster)).append (.presenceRemoved p.slot p.floor)).exitHandoff p.slot

/-- PRESENCE REMOVE (R57). -/
def runPresenceRemove (args : List Byte) (s : State) : ResultCode × State :=
  if Config.tenantSlots ≤ wordAt args 0 then (.badArgument, s)
  else
    match s.presence (wordAt args 0) with
    | none => (.notFound, s)
    | some p => (.ok, s.removeByHand p)

/-- OVERSTAY ACK (R56). -/
def runOverstayAck (args : List Byte) (s : State) : ResultCode × State :=
  let slot := wordAt args 0
  if Config.tenantSlots ≤ slot then (.badArgument, s)
  else
    match s.presence slot with
    | none => (.notFound, s)
    | some p =>
      answer [(p.state == .onSite, .state)] s
        (s.setRoster (s.roster.map fun q => if q.slot = slot then { q with state := .onSite, countdown := none } else q))

/-- ROSTER READ (R59): positions at or beyond the record count, or beyond 255, shift out seven FF bytes. -/
def sampleRosterRead (args : List Byte) (s : State) : Sample :=
  let start := natAt args 0
  let count := natAt args 1
  if count = 0 ∨ 16 < count then .refuse .badArgument
  else
    .give ((List.range count).flatMap fun k =>
      match if start + k < Config.rosterCapacity then s.roster[start + k]? else none with
      | some p => presenceBytes p
      | none => List.replicate 7 0xFF)

end Sys2Proof.Machine
end

