-- ==== Sys2Proof/Machine/Channels.lean ====
section
/-! DEFINITION. Gate channels and strike drive (chapter 7): the drive, releases, the unlocked condition, what each event does
at the channel itself, the supply samples and the PWM period. Passages/ChannelEvents hand the events on to the passage. -/

namespace Sys2Proof.Machine

/-! ## Drive -/

/-- Turns the drive on (R135): a pick where it was OFF, nothing where it is PICK or HOLD. -/
def State.driveOn (s : State) (x : Channel) : Channel :=
  if x.drive = .off then { x with drive := .pick, pickTimer := some (s.now + s.pickTime * Config.centisecond) } else x

/-- Turns the drive off and cancels the pick timer (R135). -/
def Channel.driveOff (x : Channel) : Channel := { x with drive := .off, pickTimer := none }

/-- The moment a release of the given time in tenths runs out. -/
def State.releaseEnd (s : State) (tenths : Nat) : Option Nat := some (s.now + tenths * Config.tenth)

/-- The moment a held-open time started now runs out (R127). -/
def State.heldOpenEnd (s : State) : Option Nat := some (s.now + s.heldOpenTime * Config.second)

/-! ## Releases (R121, R122) -/

/-- A release of the given time in tenths, taken by channel `c`; UNLOCKED has no use for one. -/
def State.release (s : State) (c tenths : Nat) : State :=
  let x := s.channel c
  let timed := { x with releaseTimer := s.releaseEnd tenths }
  match x.state with
  | .secure => s.setChannel c (s.driveOn { timed with state := .released })
  | .released => s.setChannel c timed
  | .passing | .propped => s.setChannel c (s.driveOn timed)
  | .forced =>
    (s.append (.gateRestored .forced c)).setChannel c
      (s.driveOn { timed with state := .passing, heldOpenTimer := s.heldOpenEnd })
  | .unlocked => s

/-- A release of time b from an egress request or GATE PULSE (R120). -/
def State.baseReleaseOf (s : State) (c : Nat) : State := s.release c s.baseRelease

/-! ## The unlocked condition (R119, R128, R129) -/

/-- The unlocked condition of channel `c` (R119). -/
def State.unlockedCondition (s : State) (c : Nat) : Bool :=
  s.channelMode c == .free || (s.channelMode c == .schedule && s.clock.phase == .opened)
    || (s.control.fireLatch && !s.fireSecure c)

/-- What the entry into UNLOCKED is restored from, if from anything (R128). -/
def ChannelState.restored : ChannelState → Option RestoredFrom
  | .forced => some .forced
  | .propped => some .propped
  | _ => none

/-- The unlocked condition begins: the channel's own part of R128. -/
def State.enterUnlocked (s : State) (c : Nat) : State :=
  let x := s.channel c
  let s1 := match x.state.restored with
    | some r => s.append (.gateRestored r c)
    | none => s
  s1.setChannel c (s.driveOn { x with state := .unlocked, releaseTimer := none, heldOpenTimer := none })

/-- The unlocked condition ends: the channel's own part of R129. -/
def State.leaveUnlocked (s : State) (c : Nat) : State :=
  let x := (s.channel c).driveOff
  s.setChannel c
    (if x.gateOpen then { x with state := .passing, heldOpenTimer := s.heldOpenEnd } else { x with state := .secure })

/-- A change of mode to LOCKED outside UNLOCKED (R130). -/
def State.lockChannel (s : State) (c : Nat) : State :=
  let x := (s.channel c).driveOff
  s.setChannel c
    { x with releaseTimer := none, state := if x.state = .released then .secure else x.state }

/-! ## The gate contact and the timers, at the channel itself -/

/-- The gate contact opens (R125). -/
def State.channelOpened (s : State) (c : Nat) : State :=
  let x := { s.channel c with gateOpen := true }
  match x.state with
  | .secure => (s.append (.gateForced c)).setChannel c { x with state := .forced }
  | .released => s.setChannel c { x with state := .passing, heldOpenTimer := s.heldOpenEnd }
  | .passing | .propped | .forced | .unlocked => s.setChannel c x

/-- The gate contact closes (R126). -/
def State.channelClosed (s : State) (c : Nat) : State :=
  let x := { s.channel c with gateOpen := false }
  let shut := { x.driveOff with state := .secure, releaseTimer := none, heldOpenTimer := none }
  match x.state with
  | .passing => s.setChannel c shut
  | .propped => (s.append (.gateRestored .propped c)).setChannel c shut
  | .forced => (s.append (.gateRestored .forced c)).setChannel c { x with state := .secure }
  | .secure | .released | .unlocked => s.setChannel c x

/-- The release timer expires (R123). -/
def State.channelExpired (s : State) (c : Nat) : State :=
  let x := { s.channel c with releaseTimer := none }
  match x.state with
  | .released => s.setChannel c { x.driveOff with state := .secure }
  | .passing | .propped => s.setChannel c x.driveOff
  | .secure | .forced | .unlocked => s.setChannel c x

/-- The held-open timer expires (R127). -/
def State.heldOpenExpired (s : State) (c : Nat) : State :=
  let x := { s.channel c with heldOpenTimer := none }
  if x.state = .passing then (s.setChannel c { x with state := .propped }).append (.gatePropped c) else s.setChannel c x

/-- The placement of channel `c` after a reset (R118): `x` is the channel with everything cancelled and the input levels
taken. -/
def State.placeChannel (s : State) (c : Nat) (x : Channel) : State :=
  if s.unlockedCondition c then s.setChannel c (s.driveOn { x with state := .unlocked })
  else if x.gateOpen then (s.setChannel c { x with state := .forced }).append (.gateForced c)
  else s.setChannel c { x with state := .secure }

/-- Channel `c` with its timers, drive and carried passage cancelled and the line levels taken (R118). -/
def freshChannel (l : Lines) (c : Nat) : Channel :=
  { state := .secure, gateOpen := l.gate.getLsbD c, drive := .off, releaseTimer := none, heldOpenTimer := none,
    pickTimer := none, carried := none, egress := l.egress.getLsbD c }

/-- The channels place themselves in rising order (R118, R162; assumption log 12). -/
def State.placeChannels (s : State) (l : Lines) : State :=
  s.forEach Config.channelCount fun c s => s.placeChannel c (freshChannel l c)

/-! ## Supply and hold duty (R136 to R138) -/

/-- The computed duty before saturation: H × 256 / v rounded half up (R136). -/
def computedDuty (h v : Nat) : Nat := (h * 256 + v / 2) / v

/-- A sample below 6.0 V (R138): no duty is computed. -/
def State.failSample (s : State) (v : Nat) : State :=
  let k := { s.strike with reading := v, sampleTimer := s.now + Config.centisecond, failMark := true }
  if s.strike.failMark then s.setStrike k else (s.setStrike k).append (.supplyFail v)

/-- A sample of 6.0 V or more (R136, R137, R138): SUPPLY_OK first where a failure ends, SUPPLY_LOW where saturation begins. -/
def State.goodSample (s : State) (v : Nat) : State :=
  let h := s.holdVoltage
  let saturates := decide (h ≠ 0) && decide (255 < computedDuty h v)
  let duty := if h = 0 ∨ saturates then 255 else computedDuty h v
  let s1 := if s.strike.failMark then s.append (.supplyOk v) else s
  let s2 := s1.setStrike
    { s.strike with
      reading := v, nextDuty := some duty, lowMark := saturates, failMark := false
      sampleTimer := s.now + Config.centisecond }
  if saturates && !s.strike.lowMark then s2.append (.supplyLow v) else s2

/-- One supply sample (R136, R138). -/
def State.supplySample (s : State) (v : Nat) : State := if v < 120 then s.failSample v else s.goodSample v

/-- A channel at a period start (R135): a pick whose timer has run out becomes HOLD. -/
def Channel.periodStart (x : Channel) : Channel :=
  if x.drive = .pick ∧ x.pickTimer = none then { x with drive := .hold } else x

/-- A PWM period start (R134, R135, R136); the system clock has counted one period (assumption log 6). -/
def State.periodStart (s : State) : State :=
  let s1 := s.setStrike { s.strike with duty := s.strike.nextDuty.getD s.strike.duty, nextDuty := none }
  let s2 := s1.forEach Config.channelCount fun c s => s.setChannel c (s.channel c).periodStart
  { s2 with now := s2.now + Config.pwmPeriod }

end Sys2Proof.Machine
end

