-- ==== Sys2Proof/Machine/Passages.lean ====
section
/-! DEFINITION. Passages (4.6 to 4.8): their completion, abandonment and governors, what a channel hands to the passage it
carries, and the channel events of chapter 7 whole: at the channel first, then at its carried passage (R132). -/

namespace Sys2Proof.Machine

/-! ## The end of a passage -/

/-- The tenant slot a passage captured, or none. -/
def Passage.tenant (p : Passage) : Option Nat := p.holder.map (·.slot)

/-- The channel that carried station `n`'s passage stops carrying it (R83, R84, R132). -/
def State.detach (s : State) (n : Nat) (channel : Option Nat) : State :=
  match channel with
  | none => s
  | some c => if (s.channel c).carried = some n then s.setChannel c { s.channel c with carried := none } else s

/-- The slot of station `n` clears its passage and takes the given state; the verdict record is kept. -/
def State.endPassage (s : State) (n : Nat) (p : Passage) (next : SlotState) : State :=
  (s.setStation n { s.station n with state := next }).detach n p.channel

/-- The completion kind of a passage. -/
def PassageKind.completion : PassageKind → CompletionKind
  | .entry => .entry
  | .exit => .exit
  | .zone => .zone

/-- The completion record of a passage that is no orphan (R83, R166). -/
def Passage.doneEvent (p : Passage) (n : Nat) : Event :=
  match p.kind with
  | .entry => .entry n p.tenant
  | .exit => .exit n p.tenant
  | .zone => .zonePass (p.destination.getD 0) n p.tenant

/-- The passage of station `n` completes (R83). -/
def State.completePassage (s : State) (n : Nat) (p : Passage) : State :=
  (s.complete p.kind.completion p.holder p.reservation (p.destination.getD 0) (.station n) (p.doneEvent n)).endPassage n p
    .ready

/-- The passage of station `n` is abandoned (R84). -/
def State.abandonPassage (s : State) (n : Nat) (p : Passage) (cause : AbandonCause) : State :=
  (s.append (.passageAbandoned cause n p.tenant)).endPassage n p (if cause = .offline then .offline else .ready)

/-! ## What a channel hands to the passage it carries (R132) -/

/-- `f` applied to the passage that channel `c` carries, with its station; nothing where it carries none. -/
def State.withCarried (s : State) (c : Nat) (f : Nat → Passage → State) : State :=
  match (s.channel c).carried with
  | none => s
  | some n =>
    match (s.station n).state with
    | .passage p => f n p
    | _ => s

def State.setPassage (s : State) (n : Nat) (p : Passage) : State :=
  s.setStation n { s.station n with state := .passage p }

/-- The passage window from now on (R75). -/
def State.windowEnd (s : State) : Governor := .window (s.now + s.passageWindow * Config.second)

/-- A RELEASE-governed passage becomes WINDOW-governed; a WINDOW-governed one is kept (R79, R80). -/
def State.toWindow (s : State) (p : Passage) : Passage :=
  if p.governor = .release then { p with governor := s.windowEnd } else p

/-- The opening handed on: the opened mark is set (R76). -/
def State.handOpened (s : State) (c : Nat) : State :=
  s.withCarried c fun n p => s.setPassage n { p with opened := true }

/-- The close handed on: a passage whose opened mark is set completes (R76). -/
def State.handClosed (s : State) (c : Nat) : State :=
  s.withCarried c fun n p => if p.opened then s.completePassage n p else s

/-- The release expiry handed on: a RELEASE-governed passage not opened is abandoned NO_OPEN (R77). -/
def State.handExpired (s : State) (c : Nat) : State :=
  s.withCarried c fun n p => if p.governor = .release ∧ ¬p.opened then s.abandonPassage n p .noOpen else s

/-- The entry into UNLOCKED, or a change of mode to LOCKED, handed on (R79). -/
def State.handWindow (s : State) (c : Nat) : State := s.withCarried c fun n p => s.setPassage n (s.toWindow p)

/-! ## Channel events, whole -/

/-- The gate contact changes to open (R125, R76). -/
def State.gateOpened (s : State) (c : Nat) : State := (s.channelOpened c).handOpened c

/-- The gate contact changes to shut (R126, R76). -/
def State.gateClosed (s : State) (c : Nat) : State := (s.channelClosed c).handClosed c

/-- The release timer of channel `c` expires (R123, R77); the states that hold no release hand nothing on. -/
def State.releaseExpired (s : State) (c : Nat) : State :=
  match (s.channel c).state with
  | .released | .passing | .propped => (s.channelExpired c).handExpired c
  | .secure | .forced | .unlocked => s.channelExpired c

/-- The channel enters or leaves UNLOCKED where its condition has begun or ended (R128, R129), and the passage it carries is
handed an entry (R79; a departure leaves a passage as it is). -/
def State.syncChannel (s : State) (c : Nat) : State :=
  if s.unlockedCondition c then
    if (s.channel c).state = .unlocked then s else (s.enterUnlocked c).handWindow c
  else if (s.channel c).state = .unlocked then s.leaveUnlocked c
  else s

/-- A SCHEDULE channel follows the site phase (R29, R31, R128, R129). -/
def State.followPhase (s : State) (c : Nat) : State := if s.channelMode c = .schedule then s.syncChannel c else s

/-- Every SCHEDULE channel follows the site phase, in rising order (assumption log 12); not while RST holds the part (R160). -/
def State.channelsFollowPhase (s : State) : State :=
  if s.power.rst then s else s.forEach Config.channelCount fun c s => s.followPhase c

/-- A PARAM WRITE has replaced the mode byte `old` of channel `c` (R128 to R130, R79). -/
def State.modeWritten (s : State) (c : Nat) (old : Byte) : State :=
  if s.modeByte c = old then s
  else if s.unlockedCondition c || (s.channel c).state == .unlocked then s.syncChannel c
  else if s.channelMode c = .locked then (s.lockChannel c).handWindow c
  else s

end Sys2Proof.Machine
end

