-- ==== Sys2Proof/Machine/Clock.lean ====
section
/-! DEFINITION. Site clock, hours and access windows (chapter 2): the site-open test, the phase evaluation with its hand-offs,
the ticks, SET CLOCK, the profile test and the release time. -/

namespace Sys2Proof.Machine

/-! ## Hours and phase -/

/-- The site is open at minute-of-week `t` (R27). -/
def State.siteOpenAt (s : State) (t : Nat) : Bool :=
  decide (s.openMinute (t / 1440) ≤ t % 1440) && decide (t % 1440 < s.closeMinute (t / 1440))

def State.setPhase (s : State) (p : Phase) : State := s.setClock { s.clock with phase := p }

/-- The close event (R29): the phase, SITE_CLOSE, then the hand-offs to the roster and the channels. -/
def State.closeEvent (s : State) : State :=
  let g := s.grace
  ((((s.setPhase (if g = 0 then .closed else .closing g)).append (.siteClose g)).rosterClose g)).channelsFollowPhase

/-- The open event (R31): the phase, SITE_OPEN, then the hand-offs. -/
def State.openEvent (s : State) : State :=
  (((s.setPhase .opened).append .siteOpen).rosterOpen).channelsFollowPhase

/-- A closing tick (R30): the grace counter runs down, and the roster is handed the tick. -/
def State.closingTick (s : State) (g : Nat) : State :=
  (s.setPhase (if g ≤ 1 then .closed else .closing (g - 1))).rosterTick

/-- The phase evaluation at the minute as it stands (2.3): `tick` is false at a SET CLOCK (R32). -/
def State.evaluatePhase (s : State) (tick : Bool) : State :=
  match s.clock.phase, s.siteOpenAt s.clock.minute with
  | .opened, true => s
  | .opened, false => s.closeEvent
  | .closing _, true => s.openEvent
  | .closing g, false => if tick then s.closingTick g else s
  | .closed, true => s.openEvent
  | .closed, false => s

/-! ## Ticks -/

/-- The clock counts: main power is present, or VBAT holds the part up (R25; assumption log 11). -/
def State.counting (s : State) : Bool := s.power.main || s.power.retention

/-- The minute after `t` (R25). -/
def nextMinute (t : Nat) : Nat := if t + 1 < Config.weekMinutes then t + 1 else 0

/-- The minute tick (R25): t advances, the seconds are 0, and the phase is evaluated while main power is present. -/
def State.minuteTick (s : State) : State :=
  if s.counting then
    let s1 := s.setClock { s.clock with minute := nextMinute s.clock.minute, seconds := 0 }
    if s.power.main then s1.evaluatePhase true else s1
  else s

/-- The seconds count advances (R25); from 59 the step is the minute tick. -/
def State.secondTick (s : State) : State :=
  if s.counting then
    if s.clock.seconds < 59 then s.setClock { s.clock with seconds := s.clock.seconds + 1 } else s.minuteTick
  else s

/-- SET CLOCK (R26, R32): CLOCK_SET carries the minute held before and is stamped with the new one. -/
def State.setTime (s : State) (t : Nat) : State :=
  (((s.setClock { s.clock with minute := t, seconds := 0 })).append (.clockSet s.clock.minute)).evaluatePhase false

def runSetClock (args : List Byte) (s : State) : ResultCode × State :=
  answer [(decide (Config.weekMinutes ≤ wordAt args 0), .badArgument)] s (s.setTime (wordAt args 0))

/-! ## Access windows and release time -/

/-- Minute `t` is inside the window (R35). -/
def Window.contains (w : Window) (t : Nat) : Bool :=
  if w.start < w.stop then decide (w.start ≤ t) && decide (t < w.stop)
  else if w.stop < w.start then decide (w.start ≤ t) || decide (t < w.stop)
  else false

/-- The length of a window in minutes (R36): it follows from start and end and is not held. -/
def Window.length (w : Window) : Nat :=
  if w.start = w.stop then 0 else (w.stop + Config.weekMinutes - w.start) % Config.weekMinutes

/-- The profile admits at minute `t` (R37). -/
def ProfileRecord.admits (p : ProfileRecord) (t : Nat) : Bool :=
  match p.kind with
  | .anytime => true
  | .windowed => p.windows.any fun w => w.contains t

/-- The profile test of a tenant slot, at the clock's minute (R37). -/
def State.profileAdmits (s : State) (slot : Nat) : Bool := (s.profile (s.tenant slot).profile).admits s.clock.minute

/-- The release time of a grant in tenths (R38): b for a grant that names no tenant. -/
def State.releaseTime (s : State) (tenant : Option Nat) : Nat :=
  match tenant with
  | none => s.baseRelease
  | some slot => if (s.tenant slot).extended then min 250 (s.baseRelease * s.extendedFactor) else s.baseRelease

end Sys2Proof.Machine
end

