-- ==== Sys2Proof/Machine/Decisions.lean ====
section
/-! DEFINITION. The decision engine at stations (4.3 to 4.5): the service order, the stages of ENTRY, EXIT and ZONE stations,
the verdicts, and the captured passage with its governor. -/

namespace Sys2Proof.Machine

/-! ## Service order (R67) -/

/-- What the engine can take. -/
inductive Work where
  | car (n : Nat) (r : CarRequest)
  | station (n : Nat) (r : Request)
  | record (r : LoadRecord) (rest : List LoadRecord)
deriving DecidableEq, Repr

/-- A pending car slot as work. -/
def State.carWork (s : State) (n : Nat) : Option Work :=
  match (s.car n).state with
  | .pending r => some (.car n r)
  | _ => none

/-- A pending station slot as work. -/
def State.stationWork (s : State) (n : Nat) : Option Work :=
  match (s.station n).state with
  | .pending r => some (.station n r)
  | _ => none

/-- The oldest buffered loader record as work. -/
def State.recordWork (s : State) : Option Work :=
  match s.loader.buffer with
  | r :: rest => some (.record r rest)
  | [] => none

/-- What the engine takes next (R67): pending cars, then pending stations, then the oldest loader record. -/
def State.nextWork (s : State) : Option Work :=
  ((List.range Config.carCount).findSome? s.carWork).or
    (((List.range Config.stationCount).findSome? s.stationWork).or s.recordWork)

/-! ## Stages -/

/-- The tenant record of a request; the stages after UNKNOWN read it, so a request without a tenant never does. -/
def State.found (s : State) (t : Option Nat) : TenantRecord := s.tenant (t.getD 0)

/-- The mode of the request's gate channel is LOCKED (the GATE_LOCKED stages). -/
def State.gateLocked (s : State) (r : Request) : Bool := r.config.channel.any fun c => s.channelMode c == .locked

/-- The thirteen stages of an ENTRY request (R69). -/
def State.entryStages (s : State) (r : Request) (t : Option Nat) : List (Bool × DenyReason) :=
  let slot := t.getD 0
  let x := s.found t
  [(s.control.fireLatch, .fire),
    (s.control.mode == .fallback, .fallback),
    (t.isNone, .unknown),
    (x.state == .suspended, .suspended),
    (x.state == .overlocked, .overlocked),
    (x.role == .tenant && s.clock.phase != .opened, .closed),
    (!s.profileAdmits slot, .hours),
    (x.role == .tenant && x.units.isEmpty, .noUnits),
    (x.role == .tenant && s.isPresent slot && s.passback == 2, .passback),
    (s.holdsReservation slot, .inTransit),
    (!s.isPresent slot && !s.placeAvailable, .rosterFull),
    (!s.presentOn slot 0 && !s.claimAllowed 0, .zoneFull),
    (s.gateLocked r, .gateLocked)]

/-- The stages of an EXIT request (R71). -/
def State.exitStages (s : State) (r : Request) (t : Option Nat) : List (Bool × DenyReason) :=
  if s.control.fireLatch || s.control.mode == .fallback then []
  else [(t.isNone, .unknown), (s.gateLocked r, .gateLocked)]

/-- The eleven stages of a ZONE request (R72). -/
def State.zoneStages (s : State) (r : Request) (t : Option Nat) : List (Bool × DenyReason) :=
  let slot := t.getD 0
  let x := s.found t
  let b := r.config.floor
  [(s.control.fireLatch, .fire),
    (s.control.mode == .fallback, .fallback),
    (t.isNone, .unknown),
    (x.state == .suspended, .suspended),
    (!s.isPresent slot, .notOnSite),
    (x.state == .overlocked && b != 0, .overlocked),
    (b != 0 && !s.profileAdmits slot, .hours),
    (!s.inFloorSet slot b, .floor),
    (s.holdsReservation slot, .inTransit),
    (!s.presentOn slot b && !s.claimAllowed b, .zoneFull),
    (s.gateLocked r, .gateLocked)]

/-! ## Verdicts -/

/-- A verdict formed while a frame that sampled the older one is open withdraws that frame's clearing of the flag (R66, R96). -/
def PortState.withdrawFetch (p : PortState) (n : Nat) : PortState :=
  { p with assembly := p.assembly.map fun fr =>
      { fr with sample := fr.sample.map fun m => if m.fetch = some n then { m with fetch := none } else m } }

/-- Station `n`'s verdict record is written in full with its unfetched flag set (R66). -/
def State.writeVerdict (s : State) (n : Nat) (o : StationOutcome) (t : Option Nat) : State :=
  (s.setStation n { s.station n with verdict := some { outcome := o, tenant := t, unfetched := true } }).setPort .field
    (s.field.withdrawFetch n)

def State.setSlot (s : State) (n : Nat) (x : SlotState) : State := s.setStation n { s.station n with state := x }

/-- A DENY verdict (R73). -/
def State.denyStation (s : State) (n : Nat) (t : Option Nat) (reason : DenyReason) : State :=
  ((s.writeVerdict n (.deny reason) t).append (.denied reason (.station n) t)).setSlot n .ready

/-- The passage of another station that channel `c` carries is replaced by a grant (R80). -/
def State.takeOver (s : State) (c : Nat) : State := s.withCarried c fun n p => s.setPassage n (s.toWindow p)

/-- Channel `c` carries station `n`'s passage from now on (R75, R80, R132). -/
def State.attach (s : State) (c n : Nat) : State :=
  let s1 := s.takeOver c
  s1.setChannel c { s1.channel c with carried := some n }

/-- A grant on channel `c` is RELEASE-governed: its mode is not LOCKED and it is not UNLOCKED (R75). -/
def State.releaseGoverned (s : State) (c : Nat) : Bool :=
  s.channelMode c != .locked && (s.channel c).state != .unlocked

/-- A grant's part at the gate (R75): the channel carries the passage, and takes the release under RELEASE. -/
def State.grantGate (s : State) (n : Nat) (channel : Option Nat) (release : Nat) : State :=
  match channel with
  | none => s
  | some c => if s.releaseGoverned c then (s.attach c n).release c release else s.attach c n

/-- The tenant slot and enrolment captured at a grant (R74). -/
def State.capture (s : State) (t : Option Nat) : Option Holder :=
  t.map fun slot => { slot, enrolment := (s.tenant slot).enrolment }

/-- The passage captured at a grant (R74), its governor and opened mark from the channel as it stands (R75). -/
def State.capturePassage (s : State) (r : Request) (kind : PassageKind) (t : Option Nat) (res : Option Reservation) : Passage :=
  { kind
    destination := match kind with
      | .entry => some 0
      | .exit => none
      | .zone => some r.config.floor
    channel := r.config.channel
    holder := s.capture t
    reservation := res
    governor := if r.config.channel.any s.releaseGoverned then .release else s.windowEnd
    opened := r.config.channel.any fun c => (s.channel c).gateOpen }

/-- A GRANT verdict (R74): the reservation and passage are taken from the state as the engine reads it; then the gate, the
verdict record, a PASSBACK record where one is called for, and the slot in PASSAGE. -/
def State.grantStation (s : State) (n : Nat) (r : Request) (kind : PassageKind) (t : Option Nat) (res : Option Reservation)
    (passback : Bool) : State :=
  let p := s.capturePassage r kind t res
  let release := s.releaseTime t
  let s1 := (s.grantGate n r.config.channel release).writeVerdict n (.grant release) t
  let s2 := if passback then s1.append (.passback kind n t) else s1
  s2.setSlot n (.passage p)

/-- The reservation of an ENTRY grant (R43, R69). -/
def State.entryReservation (s : State) (slot : Nat) : Reservation :=
  { slot, place := !s.isPresent slot, claim := if s.presentOn slot 0 then none else some 0 }

/-- The reservation of a ZONE or car grant to floor `b` (R43, R72, R92). -/
def State.floorReservation (s : State) (slot b : Nat) : Reservation :=
  { slot, place := false, claim := if s.presentOn slot b then none else some b }

/-- The decision of an ENTRY request (R69, R70). -/
def State.decideEntry (s : State) (n : Nat) (r : Request) : State :=
  let t := s.tenantOf r.credential
  match firstHolding (s.entryStages r t) with
  | some reason => s.denyStation n t reason
  | none =>
    s.grantStation n r .entry t (t.map s.entryReservation)
      ((s.found t).role == .tenant && s.isPresent (t.getD 0) && s.passback == 1)

/-- The decision of an EXIT request (R71). -/
def State.decideExit (s : State) (n : Nat) (r : Request) : State :=
  let t := s.tenantOf r.credential
  match firstHolding (s.exitStages r t) with
  | some reason => s.denyStation n t reason
  | none =>
    s.grantStation n r .exit t none
      (!s.control.fireLatch && s.control.mode == .normal && !s.isPresent (t.getD 0))

/-- The decision of a ZONE request (R72). -/
def State.decideZone (s : State) (n : Nat) (r : Request) : State :=
  let t := s.tenantOf r.credential
  match firstHolding (s.zoneStages r t) with
  | some reason => s.denyStation n t reason
  | none => s.grantStation n r .zone t (t.map fun slot => s.floorReservation slot r.config.floor) false

/-- The engine takes a station slot whose request is of type `type`, where that is its next work (R67; assumption log 9). -/
def State.takeStation (s : State) (type : StationType) (judge : State → Nat → Request → State) : State :=
  match s.nextWork with
  | some (.station n r) => if r.config.type = type then judge s n r else s
  | _ => s

end Sys2Proof.Machine
end

