-- ==== Sys2Proof/Machine/Stations.lean ====
section
/-! DEFINITION. The station commands (4.2, 4.7), the window deadline (R78) and the station half of the fire latch's setting (R85). -/

namespace Sys2Proof.Machine

/-- STATION ONLINE (R63). -/
def runStationOnline (args : List Byte) (s : State) : ResultCode × State :=
  let n := numberOf (byteAt args 0)
  answer [(decide (Config.stationCount ≤ n), .badArgument), ((s.station n).state != .offline, .state)] s (s.setSlot n .ready)

/-- What STATION OFFLINE does in each state it leaves (R64). -/
def State.takeOffline (s : State) (n : Nat) : State :=
  match (s.station n).state with
  | .passage p => s.abandonPassage n p .offline
  | _ => s.setSlot n .offline

/-- STATION OFFLINE (R64). -/
def runStationOffline (args : List Byte) (s : State) : ResultCode × State :=
  let n := numberOf (byteAt args 0)
  answer [(decide (Config.stationCount ≤ n), .badArgument), ((s.station n).state == .offline, .state)] s (s.takeOffline n)

/-- A station slot that is PENDING or in PASSAGE. -/
def SlotState.isBusy : SlotState → Bool
  | .pending _ => true
  | .passage _ => true
  | _ => false

/-- PRESENT (R65): the credential and the effective configuration go into the request buffer. -/
def runPresent (args : List Byte) (s : State) : ResultCode × State :=
  let n := numberOf (byteAt args 0)
  match credentialOf (byteAt args 1) (longAt args 2) with
  | none => (.badArgument, s)
  | some c =>
    answer [(decide (Config.stationCount ≤ n), .badArgument), ((s.station n).state == .offline, .offline),
        ((s.station n).state.isBusy, .slotBusy), ((s.effectiveConfig n).type == .none, .state)] s
      (s.setSlot n (.pending { credential := c, config := s.effectiveConfig n }))

/-- The passage that PASSED and NO PASSAGE act on (R81, R82): of a station in PASSAGE without a captured gate channel. -/
def State.openPassage (s : State) (n : Nat) : Option Passage :=
  match (s.station n).state with
  | .passage p => if p.channel.isNone then some p else none
  | _ => none

/-- PASSED and NO PASSAGE share their checks (R82); `act` ends the passage. -/
def endByField (args : List Byte) (s : State) (act : Nat → Passage → State) : ResultCode × State :=
  let n := numberOf (byteAt args 0)
  if Config.stationCount ≤ n then (.badArgument, s)
  else
    match s.openPassage n with
    | none => (.state, s)
    | some p => (.ok, act n p)

/-- PASSED (R81). -/
def runPassed (args : List Byte) (s : State) : ResultCode × State := endByField args s fun n p => s.completePassage n p

/-- NO PASSAGE (R82). -/
def runNoPassage (args : List Byte) (s : State) : ResultCode × State :=
  endByField args s fun n p => s.abandonPassage n p .noPassage

/-- VERDICT FETCH, as sampled (R66). -/
def sampleVerdictFetch (args : List Byte) (s : State) : Sample :=
  let n := numberOf (byteAt args 0)
  if Config.stationCount ≤ n then .refuse .badArgument
  else
    match (s.station n).verdict with
    | none => .refuse .state
    | some v => { result := .ok, data := verdictBytes v, fetch := some n, records := [], discards := 0 }

/-- The unfetched flag of station `n` is cleared (R66). -/
def State.clearVerdict (s : State) (n : Nat) : State :=
  s.setStation n { s.station n with verdict := (s.station n).verdict.map fun v => { v with unfetched := false } }

/-- The window deadline of station `n` (R78): a WINDOW-governed passage is abandoned TIMEOUT. -/
def State.windowDeadline (s : State) (n : Nat) : State :=
  match (s.station n).state with
  | .passage p => if p.governor = .release then s else s.abandonPassage n p .timeout
  | _ => s

/-- The fire latch's setting at one station (R85). -/
def State.fireStation (n : Nat) (s : State) : State :=
  match (s.station n).state with
  | .passage p => s.abandonPassage n p .fire
  | _ => s

end Sys2Proof.Machine
end

