-- ==== Sys2Proof/Machine/Cars.lean ====
section
/-! DEFINITION. Lift car service (chapter 5): the car stages, the reachable-floor set, the verdicts, the car commands, the trip
deadline and the fire latch's setting at the cars. -/

namespace Sys2Proof.Machine

/-- How the stages of a car request end it: stage 2 may also end it with a GRANT (R92). -/
def State.carStages (s : State) (r : CarRequest) (t : Option Nat) : List (Bool × CarOutcome) :=
  let slot := t.getD 0
  let x := s.found t
  let b := r.floor
  [(s.control.fireLatch, .deny .fire),
    (s.control.mode == .fallback && b == 0, .grant),
    (s.control.mode == .fallback, .deny .fallback),
    (t.isNone, .deny .unknown),
    (x.state == .suspended, .deny .suspended),
    (!s.isPresent slot, .deny .notOnSite),
    (x.state == .overlocked && b != 0, .deny .overlocked),
    (b != 0 && !s.profileAdmits slot, .deny .hours),
    (!s.inFloorSet slot b, .deny .floor),
    (s.holdsReservation slot, .deny .inTransit),
    (!s.presentOn slot b && !s.claimAllowed b, .deny .zoneFull)]

/-- The four floor tests for floor `f` (R93). -/
def State.floorReachable (s : State) (slot f : Nat) : Bool :=
  ((s.tenant slot).state != .overlocked || f == 0) && (f == 0 || s.profileAdmits slot) && s.inFloorSet slot f &&
    (s.presentOn slot f || s.claimAllowed f)

/-- The reachable-floor set of a car verdict (R93). -/
def State.reachableFloors (s : State) (t : Option Nat) : List Nat :=
  if s.control.fireLatch then []
  else if s.control.mode = .fallback then [0]
  else
    match t with
    | none => []
    | some slot =>
      if (s.tenant slot).state = .suspended ∨ ¬s.isPresent slot then []
      else (List.range Config.floors).filter (s.floorReachable slot)

/-- Car `n`'s verdict record is written in full with its unfetched flag set (R94, R95). -/
def State.writeCarVerdict (s : State) (n : Nat) (v : CarVerdict) : State :=
  (s.setCar n { s.car n with verdict := some v }).setPort .lift (s.lift.withdrawFetch n)

def State.setCarState (s : State) (n : Nat) (x : CarState) : State := s.setCar n { s.car n with state := x }

/-- A DENY verdict (R94). -/
def State.denyCar (s : State) (n : Nat) (r : CarRequest) (t : Option Nat) (reason : DenyReason) : State :=
  ((s.writeCarVerdict n
      { outcome := .deny reason, tenant := t, destination := r.floor, reachable := s.reachableFloors t,
        unfetched := true }).append (.denied reason (.car n) t)).setCarState n .idle

/-- A GRANT verdict (R95), with the reservation it takes. -/
def State.grantCar (s : State) (n : Nat) (r : CarRequest) (t : Option Nat) (res : Option Reservation) : State :=
  (s.writeCarVerdict n
      { outcome := .grant, tenant := t, destination := r.floor, reachable := s.reachableFloors t,
        unfetched := true }).setCarState n
    (.trip { holder := s.capture t, destination := r.floor, reservation := res,
             deadline := s.now + s.tripWindow * Config.second })

/-- The decision of a car request (R92): a GRANT of stage 2 takes no reservation. -/
def State.decideCar (s : State) (n : Nat) (r : CarRequest) : State :=
  let t := s.tenantOf r.credential
  match firstHolding (s.carStages r t) with
  | some (.deny reason) => s.denyCar n r t reason
  | some .grant => s.grantCar n r t none
  | none => s.grantCar n r t (t.map fun slot => s.floorReservation slot r.floor)

/-- The engine takes a car slot, where that is its next work (R67; assumption log 9). -/
def State.takeCar (s : State) : State :=
  match s.nextWork with
  | some (.car n r) => s.decideCar n r
  | _ => s

/-! ## The end of a trip -/

def Trip.tenant (t : Trip) : Option Nat := t.holder.map (·.slot)

/-- The trip of car `n` completes (R97). -/
def State.completeTrip (s : State) (n : Nat) (t : Trip) : State :=
  (s.complete .alight t.holder t.reservation t.destination (.car n) (.tripDone t.destination n t.tenant)).setCarState n .idle

/-- The trip of car `n` is abandoned (R98 to R100). -/
def State.abandonTrip (s : State) (n : Nat) (t : Trip) (cause : AbandonCause) : State :=
  (s.append (.tripAbandoned cause n t.tenant)).setCarState n .idle

/-- The trip deadline of car `n` (R99). -/
def State.tripDeadline (s : State) (n : Nat) : State :=
  match (s.car n).state with
  | .trip t => s.abandonTrip n t .timeout
  | _ => s

/-- The fire latch's setting at one car (R100). -/
def State.fireCar (n : Nat) (s : State) : State :=
  match (s.car n).state with
  | .trip t => s.abandonTrip n t .fire
  | _ => s

/-- The decision engine takes the setting of the fire latch (R85): trips in car order, then passages in station order. -/
def State.fireEngine (s : State) : State :=
  (s.forEach Config.carCount State.fireCar).forEach Config.stationCount State.fireStation

/-! ## Commands -/

/-- CAR QUERY (R90). -/
def runCarQuery (args : List Byte) (s : State) : ResultCode × State :=
  let n := numberOf (byteAt args 0)
  let f := natAt args 6
  match credentialOf (byteAt args 1) (longAt args 2) with
  | none => (.badArgument, s)
  | some c =>
    answer [(decide (Config.carCount ≤ n) || decide (Config.floors ≤ f), .badArgument),
        ((s.car n).state != .idle, .slotBusy)] s
      (s.setCarState n (.pending { credential := c, floor := f }))

/-- CAR ALIGHT and CAR CANCEL share their checks (R98); `act` ends the trip. -/
def endByLift (args : List Byte) (s : State) (act : Nat → Trip → State) : ResultCode × State :=
  let n := numberOf (byteAt args 0)
  if Config.carCount ≤ n then (.badArgument, s)
  else
    match (s.car n).state with
    | .trip t => (.ok, act n t)
    | _ => (.state, s)

/-- CAR ALIGHT (R97). -/
def runCarAlight (args : List Byte) (s : State) : ResultCode × State := endByLift args s fun n t => s.completeTrip n t

/-- CAR CANCEL (R98). -/
def runCarCancel (args : List Byte) (s : State) : ResultCode × State := endByLift args s fun n t => s.abandonTrip n t .cancel

/-- CAR FETCH, as sampled (R96). -/
def sampleCarFetch (args : List Byte) (s : State) : Sample :=
  let n := numberOf (byteAt args 0)
  if Config.carCount ≤ n then .refuse .badArgument
  else
    match (s.car n).verdict with
    | none => .refuse .state
    | some v => { result := .ok, data := carVerdictBytes v, fetch := some n, records := [], discards := 0 }

/-- The unfetched flag of car `n` is cleared (R96). -/
def State.clearCarVerdict (s : State) (n : Nat) : State :=
  s.setCar n { s.car n with verdict := (s.car n).verdict.map fun v => { v with unfetched := false } }

end Sys2Proof.Machine
end

