-- ==== Sys2Proof/Machine/Control.lean ====
section
/-! DEFINITION. Mode control, the parameter block, the edit window, the integrity sweep and the fire latch (9.1 to 9.4), and
GATE PULSE, which reads the same mode bytes (R124). -/

namespace Sys2Proof.Machine

/-! ## Mode -/

/-- The mode passes to FALLBACK with a MODE record; a mode already FALLBACK stays, without one (R150). -/
def State.enterFallback (s : State) (cause : ModeCause) : State :=
  if s.control.mode = .normal then (s.setControl { s.control with mode := .fallback }).append (.mode cause .fallback) else s

/-- FALLBACK ENTER (R151). -/
def runFallbackEnter (s : State) : ResultCode × State := (.ok, s.enterFallback .command)

/-- FALLBACK RELEASE (R151). -/
def runFallbackRelease (s : State) : ResultCode × State :=
  answer [(s.control.mode == .normal || s.window.isSome, .state), (s.control.tableFault, .tableFault),
      (!s.blockGood, .sumBad)] s
    ((s.setControl { s.control with mode := .normal }).append (.mode .release .normal))

/-! ## Parameter words -/

/-- A word from its high and low halves. -/
def halves (hi lo : Nat) : Word := BitVec.ofNat 32 (hi * 65536 + lo)

/-- Word `w` as a PARAM WRITE of `v` stores it (R152, 11.8): each field clamped, bits without a field 0. -/
def storedWord (w : Nat) (v : Word) : Word :=
  let lo := bitsOf v 0 16
  let hi := bitsOf v 16 16
  if w = 0 then
    halves (clamp 1 4 (bitsOf v 24 8) * 256 + clamp 0 64 (bitsOf v 16 8)) (clamp 0 2 (bitsOf v 8 8) * 256 + clamp 0 120 (bitsOf v 0 8))
  else if w ≤ 7 then halves (clamp (clamp 0 1440 lo) 1440 hi) (clamp 0 1440 lo)
  else if w = 8 then halves (clamp 5 120 hi) (clamp 10 250 lo)
  else if w = 9 then halves (clamp 5 600 hi) (clamp 30 600 lo)
  else if w = 10 then halves (clamp 0 1000 hi) (clamp 5 100 lo)
  else if w ≤ 14 then v
  else if w ≤ 46 then v &&& 0x1FF31FF3
  else if w ≤ 50 then v &&& 0x07070707
  else v

/-- A stored word acts at once: for words 47..50 on the four channels whose mode bytes it holds (R154, R128 to R130). -/
def State.storeWord (s : State) (w : Nat) (v : Word) : State :=
  let s1 := s.setParam w (storedWord w v)
  if 47 ≤ w ∧ w ≤ 50 then
    (List.range 4).foldl (fun s2 j => s2.modeWritten (4 * (w - 47) + j) (s.modeByte (4 * (w - 47) + j))) s1
  else s1

/-- PARAM WRITE (R154). -/
def runParamWrite (svckey : Bool) (args : List Byte) (s : State) : ResultCode × State :=
  let w := natAt args 0
  let v := longAt args 1
  answer [(decide (Config.paramWords ≤ w), .badArgument), (s.window.isNone, .state),
      (w == 0 && !svckey && clamp 0 64 (bitsOf v 16 8) != s.protectedCount, .isProtected)] s
    (s.storeWord w v)

/-- PARAM READ (R155). -/
def sampleParamRead (args : List Byte) (s : State) : Sample :=
  if Config.paramWords ≤ natAt args 0 then .refuse .badArgument else .give (longBytes (s.param (natAt args 0)))

/-! ## Edit window -/

/-- PARAM OPEN (R153): the window timer starts and the sweep stops. -/
def runParamOpen (s : State) : ResultCode × State :=
  answer [(s.window.isSome, .state)] s { s with window := some (s.now + Config.editWindow), sweep := none }

/-- The number of stations of a type other than NONE that name channel `c` (R156). -/
def State.namesCount (s : State) (c : Nat) : Nat := (List.range Config.stationCount).countP (s.namesChannel c)

/-- PARAM_WARN for a shared channel (R156). -/
def State.warnChannel (c : Nat) (s : State) : State :=
  if 2 ≤ s.namesCount c then s.append (.paramWarn c (s.namesCount c)) else s

/-- PARAM_FAULT with the sum found, and the mode goes to FALLBACK (R156, R157). -/
def State.paramFault (s : State) (cause : ModeCause) : State :=
  (s.append (.paramFault cause s.blockSum)).enterFallback cause

/-- The window closes, by PARAM CLOSE or by its timer (R156): sum check, shared channels, sweep. -/
def State.closeWindow (s : State) (cause : ModeCause) : State :=
  let s1 := { s with window := none }
  let s2 := if s1.blockGood then s1 else s1.paramFault cause
  { s2.forEach Config.channelCount State.warnChannel with sweep := some (s.now + Config.sweepInterval) }

/-- PARAM CLOSE (R156): SUM_BAD reports the sum found bad and is no refusal. -/
def runParamClose (s : State) : ResultCode × State :=
  if s.window.isNone then (.state, s) else (if s.blockGood then .ok else .sumBad, s.closeWindow .close)

/-- The edit window's timer expires (R153, R156). -/
def State.windowExpired (s : State) : State := if s.window.isNone then s else s.closeWindow .expiry

/-- The sweep (R157): made while the window is CLOSED, and started again. -/
def State.sweepBlock (s : State) : State :=
  if s.sweep.isNone then s
  else
    let s1 := { s with sweep := some (s.now + Config.sweepInterval) }
    if s1.blockGood || s1.control.mode == .fallback then s1 else s1.paramFault .sweep

/-! ## Fire latch -/

/-- A channel that is not fire-secure enters UNLOCKED at the latch's setting (R131); its passage is not handed the change. -/
def State.fireChannel (c : Nat) (s : State) : State :=
  if !s.fireSecure c && (s.channel c).state != .unlocked then s.enterUnlocked c else s

/-- The FIRE input goes active (R158): FIRE_ON; a latch that was clear is set, and the setting is handed to the decision
engine and then to the channels in rising order (R85, R131; assumption log 12). -/
def State.fireActive (s : State) : State :=
  if s.control.fireLive then s
  else
    let s1 := (s.setControl { s.control with fireLive := true, fireLatch := true }).append .fireOn
    if s.control.fireLatch then s1 else s1.fireEngine.forEach Config.channelCount State.fireChannel

/-- The FIRE input goes inactive (R158). -/
def State.fireInactive (s : State) : State :=
  if s.control.fireLive then (s.setControl { s.control with fireLive := false }).append .fireOff else s

/-- A channel whose unlocked condition ends with the latch leaves UNLOCKED (R129, R131). -/
def State.clearChannel (c : Nat) (s : State) : State :=
  if (s.channel c).state = .unlocked ∧ ¬s.unlockedCondition c then s.leaveUnlocked c else s

/-- FIRE CLEAR (R159). -/
def runFireClear (s : State) : ResultCode × State :=
  answer [(s.control.fireLive, .state), (!s.control.fireLatch, .state)] s
    (((s.setControl { s.control with fireLatch := false }).append .fireCleared).forEach Config.channelCount State.clearChannel)

/-! ## Gate commands -/

/-- GATE PULSE (R124): refused at a LOCKED channel, without effect at one UNLOCKED otherwise. -/
def runGatePulse (args : List Byte) (s : State) : ResultCode × State :=
  let c := numberOf (byteAt args 0)
  answer [(decide (Config.channelCount ≤ c), .badArgument), (s.channelMode c == .locked, .state)] s
    (if (s.channel c).state = .unlocked then s else s.baseReleaseOf c)

/-- CHANNEL READ (R133). -/
def sampleChannelRead (args : List Byte) (s : State) : Sample :=
  let c := numberOf (byteAt args 0)
  if Config.channelCount ≤ c then .refuse .badArgument else .give (channelBytes s c)

/-- An egress-request input's change to active (R120): a release of time b, unless the channel is LOCKED or UNLOCKED. -/
def State.egressActive (s : State) (c : Nat) : State :=
  if (s.channel c).egress then s
  else
    let s1 := s.setChannel c { s.channel c with egress := true }
    if s.channelMode c = .locked ∨ (s.channel c).state = .unlocked then s1 else s1.baseReleaseOf c

/-- Its return to inactive does nothing (R120) but to the level held. -/
def State.egressInactive (s : State) (c : Nat) : State := s.setChannel c { s.channel c with egress := false }

end Sys2Proof.Machine
end

