-- ==== Sys2Proof/Machine/Loading.lean ====
section
/-! DEFINITION. Bulk loading (chapter 8): LOAD BEGIN, LOAD DATA, LOAD ABORT and the examination of the oldest buffered record. -/

namespace Sys2Proof.Machine

/-- The records the table of a load kind has (R140). -/
def LoadKind.tableSize : LoadKind → Nat
  | .tenant => Config.tenantSlots
  | .unitFloor => Config.unitCount

/-- LOAD BEGIN (R140): the count is clamped to what the table holds from the first target on. -/
def runLoadBegin (args : List Byte) (s : State) : ResultCode × State :=
  let first := wordAt args 1
  let requested := wordAt args 3
  match loadKindOf (byteAt args 0) with
  | none => (.badArgument, s)
  | some kind =>
    let count := min requested (kind.tableSize - first)
    answer [(requested == 0 || decide (kind.tableSize ≤ first), .badArgument), (s.loader.active, .busy),
        (s.control.tableFault, .tableFault)] s
      (s.setLoader { active := true, kind, count, nextTarget := first, committed := 0, skipped := 0, remaining := count,
                     buffer := [] })

/-- The argument bytes that LOAD DATA needs (R141, R170). -/
def loadDataBytes (l : Loader) (args : List Byte) : Nat :=
  if l.active then
    match l.kind with
    | .tenant => if args.length < 8 then 8 else 8 + 2 * natAt args 7
    | .unitFloor => 1
  else 0

/-- LOAD DATA (R141). -/
def runLoadData (args : List Byte) (s : State) : ResultCode × State :=
  let l := s.loader
  if !l.active then (.state, s)
  else
    match loadRecordOf l.kind args with
    | none => (.badArgument, s)
    | some r =>
      answer [(decide (l.count ≤ l.buffer.length + l.committed + l.skipped), .state),
          (decide (Config.loaderBuffer ≤ l.buffer.length), .full)] s
        (s.setLoader { l with buffer := l.buffer ++ [r] })

/-- LOAD ABORT (R146). -/
def runLoadAbort (s : State) : ResultCode × State :=
  answer [(!s.loader.active, .state)] s
    ((s.setLoader { s.loader with active := false, buffer := [] }).append
      (.loadAborted s.loader.kind s.loader.committed s.loader.skipped))

/-! ## Examination -/

/-- A list names no number twice. -/
def noRepeats : List Nat → Bool
  | [] => true
  | u :: rest => !rest.contains u && noRepeats rest

/-- A TENANT record is skipped at its examination (R143). -/
def State.skipsTenant (s : State) (svckey : Bool) (target : Nat) (d : TenantDetails) (units : List Nat) : Bool :=
  (s.tenant target).state != .free
    || (s.isProtected target && !svckey)
    || (List.range Config.tenantSlots).any (s.holdsCredential d.credential)
    || units.any (fun u => decide (Config.unitCount ≤ u))
    || !noRepeats units
    || units.any fun u => (s.unit u).tenant.isSome

/-- One unit of a committed record names the slot, and its arm state follows (R114, R143). -/
def State.loadUnit (target : Nat) (s : State) (u : Nat) : State :=
  (s.setUnit u { s.unit u with tenant := some target }).assignArming u

/-- A TENANT record is committed (R143). -/
def State.commitTenant (s : State) (target : Nat) (d : TenantDetails) (units : List Nat) : State :=
  units.foldl (State.loadUnit target) (s.setTenant target { (s.tenant target).write d with units })

/-- The record is examined: whether it is committed, and the tables after (R143, R144). -/
def State.examine (s : State) (svckey : Bool) (target : Nat) (r : LoadRecord) : Bool × State :=
  match r with
  | .tenant d units =>
    if s.skipsTenant svckey target d units then (false, s) else (true, s.commitTenant target d units)
  | .floor f =>
    if (s.unit target).tenant.isSome then (false, s) else (true, s.setUnit target { s.unit target with floor := f })

/-- The counts after an examination (R142). -/
def Loader.examined (l : Loader) (rest : List LoadRecord) (committed : Bool) : Loader :=
  { l with
    buffer := rest, nextTarget := l.nextTarget + 1, remaining := l.remaining - 1
    committed := if committed then l.committed + 1 else l.committed
    skipped := if committed then l.skipped else l.skipped + 1 }

/-- The examination of the oldest buffered record (R142, R145): the load ends when the count is reached. -/
def State.examineOldest (s : State) (svckey : Bool) (r : LoadRecord) (rest : List LoadRecord) : State :=
  let e := s.examine svckey s.loader.nextTarget r
  let l := s.loader.examined rest e.1
  if l.committed + l.skipped = l.count then
    (e.2.setLoader { l with active := false }).append (.loadDone l.kind l.committed l.skipped)
  else e.2.setLoader l

/-- The arbiter takes the oldest buffered record, where that is the engine's next work (R67; assumption log 9). -/
def State.takeRecord (s : State) (svckey : Bool) : State :=
  match s.nextWork with
  | some (.record r rest) => s.examineOldest svckey r rest
  | _ => s

end Sys2Proof.Machine
end

