-- ==== Sys2Proof/Machine/Restarts.lean ====
section
/-! DEFINITION. Restarts (9.5): what each kind of reset sets and keeps, the restart rule of mode control, power and RST. -/

namespace Sys2Proof.Machine

/-- What every kind of reset sets (R62, R89, R118, R136 to R139, R148, R153, R157, R171): ports, cursor, station and car slots,
strike drive, load in progress, edit window, sweep; the system clock counts from the reset (assumption log 6). -/
def State.dropWork (s : State) : State :=
  { s with
    office := .cold, lift := .cold, field := .cold, cursor := none, stations := [], cars := []
    strike := { reading := 0, duty := 255, nextDuty := none, lowMark := false, failMark := false,
                sampleTimer := Config.centisecond }
    loader := { s.loader with active := false, buffer := [] }
    window := none, sweep := some Config.sweepInterval, now := 0 }

/-- What a COLD reset sets besides (R2, R6, R8, R24, R28, R40, R104, R139, R149, R152, R164). -/
def State.dropRetained (s : State) : State :=
  { s with
    tenants := [], units := [], profiles := [], roster := [], params := []
    clock := { minute := 0, seconds := 0, phase := .closed }
    loader := { active := false, kind := .tenant, count := 0, nextTarget := 0, committed := 0, skipped := 0, remaining := 0,
                buffer := [] }
    control := { s.control with fireLatch := false, tableFault := false }
    log := { records := [], next := 0, discards := 0 } }

/-- The mode chosen at a restart (R162, step 3). -/
def State.restartMode (s : State) : Mode := if !s.control.tableFault && s.blockGood then .normal else .fallback

/-- The fire level is taken at a restart (R162, step 5). -/
def State.takeFireLevel (s : State) (level : Bool) : State :=
  if level then (s.setControl { s.control with fireLive := true, fireLatch := true }).append .fireOn
  else s.setControl { s.control with fireLive := false }

/-- The table memory check's effect (R161): `failed` only where a check was made and failed. -/
def State.noteCheck (s : State) (failed : Bool) : State :=
  s.setControl { s.control with tableFault := s.control.tableFault || failed }

/-- The restart rule of mode control (R162), after the blocks have taken their reset values. -/
def State.restart (s : State) (cause : ResetCause) (l : Lines) (checkFailed : Bool) : State :=
  let s1 := (s.setControl { s.control with resetCause := cause }).noteCheck checkFailed
  let s2 := s1.setControl { s1.control with mode := s1.restartMode }
  let s3 := s2.append (.reset cause s2.control.mode s2.control.tableFault)
  (s3.takeFireLevel l.fire).placeChannels l

/-- A PIN or COMMAND reset (R160, R162): no table memory check. -/
def State.warmReset (s : State) (cause : ResetCause) (l : Lines) : State := s.dropWork.restart cause l false

/-- A COLD reset (R160 to R162); main power is present from then on. -/
def State.coldReset (s : State) (l : Lines) (checkPasses : Bool) : State :=
  (s.dropWork.dropRetained.setPower { s.power with main := true, retention := true }).restart .cold l !checkPasses

/-- A RETENTION reset (R160 to R162). -/
def State.retentionReset (s : State) (l : Lines) (checkPasses : Bool) : State :=
  (s.dropWork.setPower { s.power with main := true, retention := true }).restart .retention l !checkPasses

/-- RST returns to inactive (R160): a PIN reset, where main power is present. -/
def State.pinReset (s : State) (l : Lines) : State :=
  let s1 := s.setPower { s.power with rst := false }
  if s.power.main then s1.warmReset .pin l else s1

/-- Main power returns with the retention held; a retention found not valid makes it a COLD reset (R160). -/
def State.powerReturns (s : State) (l : Lines) (checkPasses : Bool) : State :=
  if s.power.retention then s.retentionReset l checkPasses else s.coldReset l checkPasses

/-- Main power is lost: VBAT holds the retained memory from here (R160). -/
def State.powerLost (s : State) : State :=
  if s.power.main then s.setPower { s.power with main := false, retention := true } else s

/-- VBAT falls below its holding level (R160): retention is invalid where main power is absent. -/
def State.retentionLost (s : State) : State :=
  if s.power.main then s else s.setPower { s.power with retention := false }

end Sys2Proof.Machine
end

