-- ==== Sys2Proof/Machine/Commands.lean ====
section
/-! DEFINITION. The command summary (11.6): each command's code, ports, argument bytes, whether it is a read; the log's read
(chapter 10); and the one place where a command meets the block that owns it. -/

namespace Sys2Proof.Machine

/-! ## The command table -/

/-- The code of each command (11.6). -/
def commandCode : Command → Byte
  | .null => 0x00
  | .readState => 0x01
  | .setClock => 0x10
  | .profileWrite => 0x18
  | .profileRead => 0x19
  | .selectTenant => 0x20
  | .findTenant => 0x21
  | .tenantWrite => 0x22
  | .tenantRead => 0x23
  | .tenantFree => 0x24
  | .tenantState => 0x25
  | .assignUnit => 0x26
  | .releaseUnit => 0x27
  | .unitRead => 0x30
  | .unitFloor => 0x31
  | .unitService => 0x32
  | .unitAck => 0x33
  | .rosterRead => 0x38
  | .presenceRemove => 0x39
  | .overstayAck => 0x3A
  | .loadBegin => 0x40
  | .loadData => 0x41
  | .loadAbort => 0x42
  | .logRead => 0x48
  | .paramOpen => 0x50
  | .paramWrite => 0x51
  | .paramRead => 0x52
  | .paramClose => 0x53
  | .gatePulse => 0x58
  | .channelRead => 0x59
  | .fireClear => 0x60
  | .fallbackEnter => 0x61
  | .fallbackRelease => 0x62
  | .deviceReset => 0x6F
  | .carQuery => 0x80
  | .carFetch => 0x81
  | .carAlight => 0x82
  | .carCancel => 0x83
  | .present => 0x90
  | .verdictFetch => 0x91
  | .passed => 0x92
  | .noPassage => 0x93
  | .unitContact => 0x94
  | .stationOnline => 0x95
  | .stationOffline => 0x96
  | .repeatEnd => 0xFF

/-- Every command of the table, in the order of the codes. -/
def allCommands : List Command :=
  [.null, .readState, .setClock, .profileWrite, .profileRead, .selectTenant, .findTenant, .tenantWrite, .tenantRead,
    .tenantFree, .tenantState, .assignUnit, .releaseUnit, .unitRead, .unitFloor, .unitService, .unitAck, .rosterRead,
    .presenceRemove, .overstayAck, .loadBegin, .loadData, .loadAbort, .logRead, .paramOpen, .paramWrite, .paramRead,
    .paramClose, .gatePulse, .channelRead, .fireClear, .fallbackEnter, .fallbackRelease, .deviceReset, .carQuery,
    .carFetch, .carAlight, .carCancel, .present, .verdictFetch, .passed, .noPassage, .unitContact, .stationOnline,
    .stationOffline, .repeatEnd]

/-- The command a code names; none where it is not in the table (R170, check 2). -/
def commandOf (code : Byte) : Option Command := allCommands.find? fun c => commandCode c == code

/-- The ports that permit a command (11.6; R170, check 3). -/
def permitted (c : Command) (p : Port) : Bool :=
  match c with
  | .null | .readState => true
  | .carQuery | .carFetch | .carAlight | .carCancel => p == .lift
  | .present | .verdictFetch | .passed | .noPassage | .unitContact | .stationOnline | .stationOffline => p == .field
  | .repeatEnd => p == .lift || p == .field
  | _ => p == .office

/-- The argument bytes a command needs (11.6; R170, check 4); LOAD DATA needs those of a record of the load in progress. -/
def argumentBytes (c : Command) (l : Loader) (args : List Byte) : Nat :=
  match c with
  | .null | .readState | .tenantRead | .tenantFree | .loadAbort | .paramOpen | .paramClose | .fireClear | .fallbackEnter
  | .fallbackRelease | .deviceReset | .repeatEnd => 0
  | .profileRead | .tenantState | .logRead | .paramRead | .gatePulse | .channelRead | .carFetch | .carAlight | .carCancel
  | .verdictFetch | .passed | .noPassage | .stationOnline | .stationOffline => 1
  | .setClock | .selectTenant | .assignUnit | .releaseUnit | .unitRead | .unitAck | .rosterRead | .presenceRemove
  | .overstayAck => 2
  | .unitFloor | .unitService | .unitContact => 3
  | .findTenant | .loadBegin | .paramWrite => 5
  | .present => 6
  | .carQuery => 7
  | .tenantWrite => 8
  | .profileWrite => 18
  | .loadData => loadDataBytes l args

/-- The commands that shift data out (11.6). -/
def isRead : Command → Bool
  | .readState | .profileRead | .tenantRead | .unitRead | .rosterRead | .logRead | .paramRead | .channelRead | .carFetch
  | .verdictFetch => true
  | _ => false

/-! ## Reading the log (R167) -/

/-- LOG READ, as sampled: the oldest `n` records; a position beyond the records held shifts out ten FF bytes. -/
def sampleLogRead (args : List Byte) (s : State) : Sample :=
  let n := natAt args 0
  if n = 0 ∨ 16 < n then .refuse .badArgument
  else
    { result := .ok
      data := (List.range n).flatMap fun k =>
        match s.log.records[k]? with
        | some r => eventBytes r
        | none => List.replicate 10 0xFF
      fetch := none
      records := s.log.records.take n
      discards := s.log.discards }

/-- The sampled records that a frame of `bytes` bytes shifted out whole: the data begins at byte 2. -/
def wholeRecords (m : Sample) (bytes : Nat) : List EventRecord := m.records.take ((bytes - 2) / 10)

/-- The records shifted out whole are removed where they are still held (R167). They were the oldest at the sampling, and an append
discards the oldest first: as many of them are gone as the log has discarded since, and the rest stand at its head. -/
def State.removeRead (s : State) (m : Sample) (bytes : Nat) : State :=
  s.setLog { s.log with
    records := s.log.records.drop ((wholeRecords m bytes).length - (s.log.discards - m.discards)) }

/-! ## A command and its block -/

/-- What a read samples (R170: the owning block makes its checks when the data is sampled). -/
def sampleOf (c : Command) (args : List Byte) (s : State) : Sample :=
  match c with
  | .readState => .give (stateBytes s)
  | .profileRead => sampleProfileRead args s
  | .tenantRead => sampleTenantRead s
  | .unitRead => sampleUnitRead args s
  | .rosterRead => sampleRosterRead args s
  | .logRead => sampleLogRead args s
  | .paramRead => sampleParamRead args s
  | .channelRead => sampleChannelRead args s
  | .carFetch => sampleCarFetch args s
  | .verdictFetch => sampleVerdictFetch args s
  | _ => .give []

/-- What the end of a read's frame does (R66, R96, R167): a frame of `bytes` bytes with the sample `m`, whose result is OK. -/
def endRead (c : Command) (bytes : Nat) (m : Sample) (s : State) : State :=
  match c with
  | .logRead => s.removeRead m bytes
  | .verdictFetch => match m.fetch with
    | some n => s.clearVerdict n
    | none => s
  | .carFetch => match m.fetch with
    | some n => s.clearCarVerdict n
    | none => s
  | _ => s

/-- DEVICE RESET (R160): the result is never reported, since the reset sets every last-result byte to OK. -/
def runDeviceReset (l : Lines) (s : State) : ResultCode × State := (.ok, s.warmReset .command l)

/-- A write command's checks and effect, by the block that owns it. A read has none here. -/
def runCommand (c : Command) (l : Lines) (args : List Byte) (s : State) : ResultCode × State :=
  match c with
  | .null => (.ok, s)
  | .setClock => runSetClock args s
  | .profileWrite => runProfileWrite args s
  | .selectTenant => runSelectTenant args s
  | .findTenant => runFindTenant args s
  | .tenantWrite => runTenantWrite l.svckey args s
  | .tenantFree => runTenantFree l.svckey s
  | .tenantState => runTenantState l.svckey args s
  | .assignUnit => runAssignUnit l.svckey args s
  | .releaseUnit => runReleaseUnit l.svckey args s
  | .unitFloor => runUnitFloor args s
  | .unitService => runUnitService args s
  | .unitAck => runUnitAck args s
  | .presenceRemove => runPresenceRemove args s
  | .overstayAck => runOverstayAck args s
  | .loadBegin => runLoadBegin args s
  | .loadData => runLoadData args s
  | .loadAbort => runLoadAbort s
  | .paramOpen => runParamOpen s
  | .paramWrite => runParamWrite l.svckey args s
  | .paramClose => runParamClose s
  | .gatePulse => runGatePulse args s
  | .fireClear => runFireClear s
  | .fallbackEnter => runFallbackEnter s
  | .fallbackRelease => runFallbackRelease s
  | .deviceReset => runDeviceReset l s
  | .carQuery => runCarQuery args s
  | .carAlight => runCarAlight args s
  | .carCancel => runCarCancel args s
  | .present => runPresent args s
  | .passed => runPassed args s
  | .noPassage => runNoPassage args s
  | .unitContact => runUnitContact args s
  | .stationOnline => runStationOnline args s
  | .stationOffline => runStationOffline args s
  | .repeatEnd => (.ok, s)
  | .readState | .profileRead | .tenantRead | .unitRead | .rosterRead | .logRead | .paramRead | .channelRead | .carFetch
  | .verdictFetch => (.ok, s)

end Sys2Proof.Machine
end

