-- ==== Sys2Proof/Machine/Flags.lean ====
section
/-! DEFINITION. What the part drives outward: the attention conditions and lines (R173), the status byte (R172), the strike
outputs (R134). -/

namespace Sys2Proof.Machine

/-- A port's attention condition (R66, R96, R168, R173). -/
def State.attention (s : State) : Port → Bool
  | .office => !s.log.records.isEmpty
  | .lift => (List.range Config.carCount).any fun n => (s.car n).verdict.any fun v => v.unfetched
  | .field => (List.range Config.stationCount).any fun n => (s.station n).verdict.any fun v => v.unfetched

/-- A port's ATN line is active: its condition holds and RST is inactive (R173). DEDUCED, the MODEL's (assumption log 11): it is
inactive without main power too. -/
def State.atn (s : State) (p : Port) : Bool := s.attention p && s.running

/-- A port's status byte (R172). -/
def State.statusByte (s : State) (p : Port) : Byte :=
  BitVec.ofNat 8 ((if s.control.mode = .fallback then 0x80 else 0) + (if s.control.fireLatch then 0x40 else 0) +
    (if s.attention p then 0x20 else 0) + (if (s.port p).repeating then 0x10 else 0) +
    (if p = .office && s.loader.active then 0x08 else 0) + (if p = .office && s.window.isSome then 0x04 else 0) +
    (if s.control.tableFault then 0x02 else 0) + 1)

/-- The strike output of channel `c` in tick `tick` (0..255) of a PWM period (R134); off while RST is active (R160). DEDUCED, the
MODEL's (assumption log 11): it is off without main power too, of which the spec says nothing. -/
def State.strikeOutput (s : State) (c tick : Nat) : Bool :=
  s.running &&
    match (s.channel c).drive with
    | .off => false
    | .pick => true
    | .hold => decide (tick < s.strike.duty)

end Sys2Proof.Machine
end

