-- ==== Sys2Proof/Machine/Frames.lean ====
section
/-! DEFINITION. The port engines (chapter 11): opening a frame, sampling a read's data, the checks of R170, repeat mode, what
is shifted out, and the end of a frame. -/

namespace Sys2Proof.Machine

/-! ## Repeat mode (R174) -/

/-- The command whose frames a port sends in repeat mode: CAR QUERY on LIFT, PRESENT on FIELD, none on OFFICE. -/
def repeatCommand : Port → Option Command
  | .office => none
  | .lift => some .carQuery
  | .field => some .present

/-- The port enters repeat mode when `c` was taken OK outside repeat mode with its repeat flag set (R174). -/
def State.enterRepeat (s : State) (p : Port) (c : Command) (args : List Byte) (r : ResultCode) : State :=
  if repeatCommand p = some c ∧ r = .ok ∧ repeatFlag (byteAt args 0) then
    s.setPort p { s.port p with repeating := true }
  else s

def State.leaveRepeat (s : State) (p : Port) : State := s.setPort p { s.port p with repeating := false }

/-! ## Sampling (R169, R170) -/

/-- The data a frame of the given bytes samples: only outside repeat mode, for a permitted read whose arguments are complete. -/
def frameSample (p : Port) (wire : List Byte) (s : State) : Option Sample :=
  if (s.port p).repeating then none
  else
    match wire with
    | [] => none
    | code :: args =>
      match commandOf code with
      | none => none
      | some c =>
        if permitted c p && isRead c && decide (argumentBytes c s.loader args ≤ args.length) then some (sampleOf c args s)
        else none

/-- The bytes shifted out between byte 1 and the first data byte: one for each argument byte after the first of a permitted
read (assumption log 13). -/
def fillCount (p : Port) (wire : List Byte) (s : State) : Nat :=
  if (s.port p).repeating then 0
  else
    match wire with
    | [] => 0
    | code :: args =>
      match commandOf code with
      | none => 0
      | some c => if permitted c p && isRead c then argumentBytes c s.loader args - 1 else 0

/-- `n` free bytes from number `k` on. -/
def freeBytes (k n : Nat) : List Byte := (List.range n).map fun i => Config.argumentFill (k + i)

/-- The bytes a frame of `n` bytes shifts out (R169): status, last result, the free bytes, the data, and FF beyond it. -/
def shiftedOut (status : Byte) (last : ResultCode) (fill data : List Byte) (n : Nat) : List Byte :=
  (status :: byteOf last.code :: (fill ++ data ++ List.replicate n 0xFF)).take n

/-! ## Taking a frame (R169, R170, R174) -/

/-- A frame in repeat mode (R174): FF leaves it; any other first byte begins the repeat command's arguments. -/
def takeRepeat (p : Port) (l : Lines) (wire : List Byte) (s : State) : ResultCode × State :=
  if byteAt wire 0 = 0xFF then (.ok, s.leaveRepeat p)
  else
    match repeatCommand p with
    | none => (.ok, s)
    | some c => if wire.length < argumentBytes c s.loader wire then (.short, s) else runCommand c l wire s

/-- A read at the end of its frame: the result of its sampling, and where that is OK its removals and flag clearings. -/
def takeRead (c : Command) (bytes : Nat) (m : Option Sample) (s : State) : ResultCode × State :=
  match m with
  | none => (.ok, s)
  | some m => if m.result = .ok then (.ok, endRead c bytes m s) else (m.result, s)

/-- Checks 2 to 4 of R170, then the block that owns the command. -/
def takeCoded (p : Port) (l : Lines) (code : Byte) (args : List Byte) (m : Option Sample) (s : State) : ResultCode × State :=
  match commandOf code with
  | none => (.unknownCommand, s)
  | some c =>
    if !permitted c p then (.notPermitted, s)
    else if args.length < argumentBytes c s.loader args then (.short, s)
    else if isRead c then takeRead c (args.length + 1) m s
    else
      let e := runCommand c l args s
      (e.1, e.2.enterRepeat p c args e.1)

/-- A whole frame, outside or in repeat mode. -/
def takeFrame (p : Port) (l : Lines) (wire : List Byte) (m : Option Sample) (s : State) : ResultCode × State :=
  if (s.port p).repeating then takeRepeat p l wire s
  else
    match wire with
    | [] => (.ok, s)
    | code :: args => takeCoded p l code args m s

/-! ## Opening and closing -/

/-- A frame opened now with the given bytes clocked (R169): the status byte is sampled first, a read's data as soon as its
arguments are complete. -/
def newFrame (p : Port) (wire : List Byte) (s : State) : OpenFrame :=
  { wire, status := s.statusByte p, sample := frameSample p wire s }

/-- The state with the frame `fr` open at port `p`. -/
def State.holdFrame (s : State) (p : Port) (fr : OpenFrame) : State := s.setPort p { s.port p with assembly := some fr }

/-- xSEL goes active and the given bytes are clocked. -/
def openFrame (p : Port) (wire : List Byte) (s : State) : State := s.holdFrame p (newFrame p wire s)

/-- What a frame leaves behind: its result, no frame open, the bytes shifted out, and the `drawn` free bytes used up. -/
def State.frameDone (s : State) (p : Port) (r : ResultCode) (out : List Byte) (drawn : Nat) : State :=
  { s.setPort p { s.port p with lastResult := r, assembly := none, out } with fills := s.fills + drawn }

/-- The sample of a frame once all its bytes are in: what was sampled before, or what the last bytes complete. -/
def OpenFrame.finalSample (fr : OpenFrame) (p : Port) (wire : List Byte) (s : State) : Option Sample :=
  fr.sample.or (frameSample p wire s)

/-- The open frame with the bytes `wire` clocked: a read whose arguments they complete is sampled now. -/
def OpenFrame.clocked (fr : OpenFrame) (p : Port) (wire : List Byte) (s : State) : OpenFrame :=
  { fr with wire, sample := fr.finalSample p wire s }

/-- More bytes of the frame open at a port: `first` from its code byte on, where none was clocked yet, and else `more`. None is
open, nothing happens. -/
def clockFrame (p : Port) (first more : List Byte) (s : State) : State :=
  match (s.port p).assembly with
  | none => s
  | some fr => s.holdFrame p (fr.clocked p (if fr.wire = [] then first else fr.wire ++ more) s)

/-- What a frame with the bytes `wire` shifts out in all. -/
def OpenFrame.shifted (fr : OpenFrame) (p : Port) (wire : List Byte) (s : State) : List Byte :=
  let data := match fr.finalSample p wire s with
    | some m => m.data
    | none => []
  shiftedOut fr.status (s.port p).lastResult (freeBytes s.fills (fillCount p wire s)) data wire.length

/-- The rest of the bytes and the rising edge of xSEL (R169): the frame is taken; one without a clock edge is disregarded. -/
def endFrame (p : Port) (l : Lines) (fr : OpenFrame) (more : List Byte) (s : State) : State :=
  let wire := fr.wire ++ more
  if wire = [] then s.setPort p { s.port p with assembly := none }
  else
    let e := takeFrame p l wire (fr.finalSample p wire s) s
    e.2.frameDone p e.1 (fr.shifted p wire s) (fillCount p wire s)

/-- The end of the frame that is open at a port; none is open, nothing happens. -/
def closeFrame (p : Port) (l : Lines) (more : List Byte) (s : State) : State :=
  match (s.port p).assembly with
  | none => s
  | some fr => endFrame p l fr more s

/-- A frame that ends inside a byte (R170): no effect, result FRAMING, repeat mode off. -/
def framingFrame (p : Port) (more : List Byte) (s : State) : State :=
  let fr := (s.port p).assembly.getD (newFrame p [] s)
  let wire := fr.wire ++ more
  (s.leaveRepeat p).frameDone p .framing (fr.shifted p wire s) (fillCount p wire s)

/-! ## A frame as one event -/

/-- A frame event with the bytes `wire` from its code byte on (assumption log 3). While RST is active or main power absent the
engines open and take no frame (R160, R169). -/
def frameEvent (f : Frame) (wire : List Byte) (s : State) : State :=
  if s.running then
    match f.part with
    | .whole => endFrame f.port f.lines (newFrame f.port wire s) [] s
    | .select => openFrame f.port [] s
    | .opening => openFrame f.port wire s
    | .middle => clockFrame f.port wire f.bytes s
    | .closing => closeFrame f.port f.lines f.bytes s
  else s

/-- The bytes of a frame of command `c`: in repeat mode the port's repeat command is sent without its code (R174). -/
def commandWire (c : Command) (f : Frame) (s : State) : List Byte :=
  if (s.port f.port).repeating ∧ repeatCommand f.port = some c then f.bytes else commandCode c :: f.bytes

/-- A frame event of command `c`. -/
def commandFrame (c : Command) (f : Frame) (s : State) : State := frameEvent f (commandWire c f s) s

end Sys2Proof.Machine
end

