-- ==== Sys2Proof/Machine/FrameCommands.lean ====
section
/-! DEFINITION. The meaning of each frame command: its frame on its port, taken by the port engine (Machine/Frames.lean) and the
block that owns the command (Machine/Commands.lean: `runCommand`, `sampleOf`, `endRead`). -/

namespace Sys2Proof.Machine

/-- What a step answers. -/
abbrev Answer := Host.Outcome State Fault Refusal

/-- NULL (R171). -/
def execNull (f : Frame) (s : State) : Answer := .next (commandFrame .null f s)

/-- READ_STATE (R163). -/
def execReadState (f : Frame) (s : State) : Answer := .next (commandFrame .readState f s)

/-- SET_CLOCK (R26). -/
def execSetClock (f : Frame) (s : State) : Answer := .next (commandFrame .setClock f s)

/-- PROFILE_WRITE (R21). -/
def execProfileWrite (f : Frame) (s : State) : Answer := .next (commandFrame .profileWrite f s)

/-- PROFILE_READ (R22). -/
def execProfileRead (f : Frame) (s : State) : Answer := .next (commandFrame .profileRead f s)

/-- SELECT_TENANT (R11). -/
def execSelectTenant (f : Frame) (s : State) : Answer := .next (commandFrame .selectTenant f s)

/-- FIND_TENANT (R12). -/
def execFindTenant (f : Frame) (s : State) : Answer := .next (commandFrame .findTenant f s)

/-- TENANT_WRITE (R13). -/
def execTenantWrite (f : Frame) (s : State) : Answer := .next (commandFrame .tenantWrite f s)

/-- TENANT_READ (R14). -/
def execTenantRead (f : Frame) (s : State) : Answer := .next (commandFrame .tenantRead f s)

/-- TENANT_FREE (R15). -/
def execTenantFree (f : Frame) (s : State) : Answer := .next (commandFrame .tenantFree f s)

/-- TENANT_STATE (R16). -/
def execTenantState (f : Frame) (s : State) : Answer := .next (commandFrame .tenantState f s)

/-- ASSIGN_UNIT (R17). -/
def execAssignUnit (f : Frame) (s : State) : Answer := .next (commandFrame .assignUnit f s)

/-- RELEASE_UNIT (R18). -/
def execReleaseUnit (f : Frame) (s : State) : Answer := .next (commandFrame .releaseUnit f s)

/-- UNIT_READ (R19). -/
def execUnitRead (f : Frame) (s : State) : Answer := .next (commandFrame .unitRead f s)

/-- UNIT_FLOOR (R20). -/
def execUnitFloor (f : Frame) (s : State) : Answer := .next (commandFrame .unitFloor f s)

/-- UNIT_SERVICE (R113). -/
def execUnitService (f : Frame) (s : State) : Answer := .next (commandFrame .unitService f s)

/-- UNIT_ACK (R111). -/
def execUnitAck (f : Frame) (s : State) : Answer := .next (commandFrame .unitAck f s)

/-- ROSTER_READ (R59). -/
def execRosterRead (f : Frame) (s : State) : Answer := .next (commandFrame .rosterRead f s)

/-- PRESENCE_REMOVE (R57). -/
def execPresenceRemove (f : Frame) (s : State) : Answer := .next (commandFrame .presenceRemove f s)

/-- OVERSTAY_ACK (R56). -/
def execOverstayAck (f : Frame) (s : State) : Answer := .next (commandFrame .overstayAck f s)

/-- LOAD_BEGIN (R140). -/
def execLoadBegin (f : Frame) (s : State) : Answer := .next (commandFrame .loadBegin f s)

/-- LOAD_DATA (R141). -/
def execLoadData (f : Frame) (s : State) : Answer := .next (commandFrame .loadData f s)

/-- LOAD_ABORT (R146). -/
def execLoadAbort (f : Frame) (s : State) : Answer := .next (commandFrame .loadAbort f s)

/-- LOG_READ (R167). -/
def execLogRead (f : Frame) (s : State) : Answer := .next (commandFrame .logRead f s)

/-- PARAM_OPEN (R153). -/
def execParamOpen (f : Frame) (s : State) : Answer := .next (commandFrame .paramOpen f s)

/-- PARAM_WRITE (R154). -/
def execParamWrite (f : Frame) (s : State) : Answer := .next (commandFrame .paramWrite f s)

/-- PARAM_READ (R155). -/
def execParamRead (f : Frame) (s : State) : Answer := .next (commandFrame .paramRead f s)

/-- PARAM_CLOSE (R156). -/
def execParamClose (f : Frame) (s : State) : Answer := .next (commandFrame .paramClose f s)

/-- GATE_PULSE (R124). -/
def execGatePulse (f : Frame) (s : State) : Answer := .next (commandFrame .gatePulse f s)

/-- CHANNEL_READ (R133). -/
def execChannelRead (f : Frame) (s : State) : Answer := .next (commandFrame .channelRead f s)

/-- FIRE_CLEAR (R159). -/
def execFireClear (f : Frame) (s : State) : Answer := .next (commandFrame .fireClear f s)

/-- FALLBACK_ENTER (R151). -/
def execFallbackEnter (f : Frame) (s : State) : Answer := .next (commandFrame .fallbackEnter f s)

/-- FALLBACK_RELEASE (R151). -/
def execFallbackRelease (f : Frame) (s : State) : Answer := .next (commandFrame .fallbackRelease f s)

/-- DEVICE_RESET (R160). -/
def execDeviceReset (f : Frame) (s : State) : Answer := .next (commandFrame .deviceReset f s)

/-- CAR_QUERY (R90). -/
def execCarQuery (f : Frame) (s : State) : Answer := .next (commandFrame .carQuery f s)

/-- CAR_FETCH (R96). -/
def execCarFetch (f : Frame) (s : State) : Answer := .next (commandFrame .carFetch f s)

/-- CAR_ALIGHT (R97). -/
def execCarAlight (f : Frame) (s : State) : Answer := .next (commandFrame .carAlight f s)

/-- CAR_CANCEL (R98). -/
def execCarCancel (f : Frame) (s : State) : Answer := .next (commandFrame .carCancel f s)

/-- PRESENT (R65). -/
def execPresent (f : Frame) (s : State) : Answer := .next (commandFrame .present f s)

/-- VERDICT_FETCH (R66). -/
def execVerdictFetch (f : Frame) (s : State) : Answer := .next (commandFrame .verdictFetch f s)

/-- PASSED (R81). -/
def execPassed (f : Frame) (s : State) : Answer := .next (commandFrame .passed f s)

/-- NO_PASSAGE (R82). -/
def execNoPassage (f : Frame) (s : State) : Answer := .next (commandFrame .noPassage f s)

/-- UNIT_CONTACT (R107). -/
def execUnitContact (f : Frame) (s : State) : Answer := .next (commandFrame .unitContact f s)

/-- STATION_ONLINE (R63). -/
def execStationOnline (f : Frame) (s : State) : Answer := .next (commandFrame .stationOnline f s)

/-- STATION_OFFLINE (R64). -/
def execStationOffline (f : Frame) (s : State) : Answer := .next (commandFrame .stationOffline f s)

/-- REPEAT_END (R174). -/
def execRepeatEnd (f : Frame) (s : State) : Answer := .next (commandFrame .repeatEnd f s)

/-- REPEAT_MODE_LEAVE (R174): the frame begins with FF. -/
def execRepeatModeLeave (f : Frame) (s : State) : Answer := .next (frameEvent f (0xFF :: f.bytes) s)

/-- FRAMING (R170). -/
def execFraming (p : Port) (bytes : List Byte) (s : State) : Answer :=
  .next (if s.running then framingFrame p bytes s else s)

/-- UNKNOWN_COMMAND (R170): a frame with a code of its own. -/
def execUnknownCommand (code : Byte) (f : Frame) (s : State) : Answer := .next (frameEvent f (code :: f.bytes) s)

end Sys2Proof.Machine
end

