-- ==== Sys2Proof/Machine/Events.lean ====
section
/-! DEFINITION. The meaning of each event that is no frame: input lines, resets and power, ticks, the decision engine, and the
expiries of the part's own timers. While RST is active or main power absent the part takes none of them but the ticks, the
resets and the power events themselves (R160). -/

namespace Sys2Proof.Machine

/-- An event that the part takes only while it runs (R160). -/
def whileRunning (s : State) (effect : State) : Answer := .next (if s.running then effect else s)

/-! ## Input lines -/

/-- GATE_CONTACT_OPEN (R125): a change to open; at a gate already open there is none (assumption log 8). -/
def execGateContactOpen (c : Fin 16) (s : State) : Answer :=
  whileRunning s (if (s.channel c).gateOpen then s else s.gateOpened c)

/-- GATE_CONTACT_CLOSE (R126): a change to shut; at a gate already shut there is none (assumption log 8). -/
def execGateContactClose (c : Fin 16) (s : State) : Answer :=
  whileRunning s (if (s.channel c).gateOpen then s.gateClosed c else s)

/-- EGRESS_REQUEST (R120). -/
def execEgressRequest (c : Fin 16) (active : Bool) (s : State) : Answer :=
  whileRunning s (if active then s.egressActive c else s.egressInactive c)

/-- FIRE_INPUT_ACTIVE (R158). -/
def execFireInputActive (s : State) : Answer := whileRunning s s.fireActive

/-- FIRE_INPUT_INACTIVE (R158). -/
def execFireInputInactive (s : State) : Answer := whileRunning s s.fireInactive

/-! ## Resets and power -/

/-- RST_ASSERT (R160): the part is held until RST returns. -/
def execRstAssert (s : State) : Answer := .next (s.setPower { s.power with rst := true })

/-- PIN_RESET (R160, R162). -/
def execPinReset (l : Lines) (s : State) : Answer := .next (s.pinReset l)

/-- COLD_RESET (R160 to R162). -/
def execColdReset (l : Lines) (checkPasses : Bool) (s : State) : Answer := .next (s.coldReset l checkPasses)

/-- RETENTION_RESET (R160 to R162). -/
def execRetentionReset (l : Lines) (checkPasses : Bool) (s : State) : Answer := .next (s.powerReturns l checkPasses)

/-- MAIN_POWER_LOSS (R160). -/
def execMainPowerLoss (s : State) : Answer := .next s.powerLost

/-- VBAT_BELOW_HOLDING_LEVEL (R160). -/
def execVbatBelowHoldingLevel (s : State) : Answer := .next s.retentionLost

/-! ## Ticks -/

/-- SECOND_TICK (R25). -/
def execSecondTick (s : State) : Answer := .next s.secondTick

/-- MINUTE_TICK (R25). -/
def execMinuteTick (s : State) : Answer := .next s.minuteTick

/-! ## Decision engine -/

/-- ENTRY_DECISION (R69). -/
def execEntryDecision (s : State) : Answer := whileRunning s (s.takeStation .entry State.decideEntry)

/-- EXIT_DECISION (R71). -/
def execExitDecision (s : State) : Answer := whileRunning s (s.takeStation .exit State.decideExit)

/-- ZONE_DECISION (R72). -/
def execZoneDecision (s : State) : Answer := whileRunning s (s.takeStation .zone State.decideZone)

/-- CAR_DECISION (R92). -/
def execCarDecision (s : State) : Answer := whileRunning s s.takeCar

/-- LOADER_EXAMINE (R142). -/
def execLoaderExamine (svckey : Bool) (s : State) : Answer := whileRunning s (s.takeRecord svckey)

/-! ## Timers: an expiry acts where the timer runs (assumption logs 7, 8) -/

/-- RELEASE_TIMER_EXPIRY (R123). -/
def execReleaseTimerExpiry (c : Fin 16) (s : State) : Answer :=
  whileRunning s (if (s.channel c).releaseTimer.isSome then s.releaseExpired c else s)

/-- HELD_OPEN_TIMER_EXPIRY (R127). -/
def execHeldOpenTimerExpiry (c : Fin 16) (s : State) : Answer :=
  whileRunning s (if (s.channel c).heldOpenTimer.isSome then s.heldOpenExpired c else s)

/-- PICK_TIMER_EXPIRY (R135): the timer becomes absent; the drive is HOLD from the next period start. -/
def execPickTimerExpiry (c : Fin 16) (s : State) : Answer :=
  whileRunning s (s.setChannel c { s.channel c with pickTimer := none })

/-- PASSAGE_WINDOW_DEADLINE (R78). -/
def execPassageWindowDeadline (n : Fin 64) (s : State) : Answer := whileRunning s (s.windowDeadline n)

/-- TRIP_DEADLINE (R99). -/
def execTripDeadline (n : Fin 4) (s : State) : Answer := whileRunning s (s.tripDeadline n)

/-- EDIT_WINDOW_EXPIRY (R153, R156). -/
def execEditWindowExpiry (s : State) : Answer := whileRunning s s.windowExpired

/-- INTEGRITY_SWEEP (R157). -/
def execIntegritySweep (s : State) : Answer := whileRunning s s.sweepBlock

/-- SUPPLY_SAMPLE (R136 to R138). -/
def execSupplySample (v : Fin 1024) (s : State) : Answer := whileRunning s (s.supplySample v)

/-- PWM_PERIOD_START (R134 to R136). -/
def execPwmPeriodStart (s : State) : Answer := whileRunning s s.periodStart

end Sys2Proof.Machine
end

