-- ==== Sys2Proof/Machine/Dispatch.lean ====
section
/-! DEFINITION. The dispatch: one arm per command, each one direct call of its meaning. -/

namespace Sys2Proof.Machine

def exec (i : Instr) (s : State) : Host.Outcome State Fault Refusal :=
  match i with
  | .null f => Sys2Proof.Machine.execNull f s
  | .readState f => Sys2Proof.Machine.execReadState f s
  | .setClock f => Sys2Proof.Machine.execSetClock f s
  | .profileWrite f => Sys2Proof.Machine.execProfileWrite f s
  | .profileRead f => Sys2Proof.Machine.execProfileRead f s
  | .selectTenant f => Sys2Proof.Machine.execSelectTenant f s
  | .findTenant f => Sys2Proof.Machine.execFindTenant f s
  | .tenantWrite f => Sys2Proof.Machine.execTenantWrite f s
  | .tenantRead f => Sys2Proof.Machine.execTenantRead f s
  | .tenantFree f => Sys2Proof.Machine.execTenantFree f s
  | .tenantState f => Sys2Proof.Machine.execTenantState f s
  | .assignUnit f => Sys2Proof.Machine.execAssignUnit f s
  | .releaseUnit f => Sys2Proof.Machine.execReleaseUnit f s
  | .unitRead f => Sys2Proof.Machine.execUnitRead f s
  | .unitFloor f => Sys2Proof.Machine.execUnitFloor f s
  | .unitService f => Sys2Proof.Machine.execUnitService f s
  | .unitAck f => Sys2Proof.Machine.execUnitAck f s
  | .rosterRead f => Sys2Proof.Machine.execRosterRead f s
  | .presenceRemove f => Sys2Proof.Machine.execPresenceRemove f s
  | .overstayAck f => Sys2Proof.Machine.execOverstayAck f s
  | .loadBegin f => Sys2Proof.Machine.execLoadBegin f s
  | .loadData f => Sys2Proof.Machine.execLoadData f s
  | .loadAbort f => Sys2Proof.Machine.execLoadAbort f s
  | .logRead f => Sys2Proof.Machine.execLogRead f s
  | .paramOpen f => Sys2Proof.Machine.execParamOpen f s
  | .paramWrite f => Sys2Proof.Machine.execParamWrite f s
  | .paramRead f => Sys2Proof.Machine.execParamRead f s
  | .paramClose f => Sys2Proof.Machine.execParamClose f s
  | .gatePulse f => Sys2Proof.Machine.execGatePulse f s
  | .channelRead f => Sys2Proof.Machine.execChannelRead f s
  | .fireClear f => Sys2Proof.Machine.execFireClear f s
  | .fallbackEnter f => Sys2Proof.Machine.execFallbackEnter f s
  | .fallbackRelease f => Sys2Proof.Machine.execFallbackRelease f s
  | .deviceReset f => Sys2Proof.Machine.execDeviceReset f s
  | .carQuery f => Sys2Proof.Machine.execCarQuery f s
  | .carFetch f => Sys2Proof.Machine.execCarFetch f s
  | .carAlight f => Sys2Proof.Machine.execCarAlight f s
  | .carCancel f => Sys2Proof.Machine.execCarCancel f s
  | .present f => Sys2Proof.Machine.execPresent f s
  | .verdictFetch f => Sys2Proof.Machine.execVerdictFetch f s
  | .passed f => Sys2Proof.Machine.execPassed f s
  | .noPassage f => Sys2Proof.Machine.execNoPassage f s
  | .unitContact f => Sys2Proof.Machine.execUnitContact f s
  | .stationOnline f => Sys2Proof.Machine.execStationOnline f s
  | .stationOffline f => Sys2Proof.Machine.execStationOffline f s
  | .repeatEnd f => Sys2Proof.Machine.execRepeatEnd f s
  | .repeatModeLeave f => Sys2Proof.Machine.execRepeatModeLeave f s
  | .framing port bytes => Sys2Proof.Machine.execFraming port bytes s
  | .unknownCommand code f => Sys2Proof.Machine.execUnknownCommand code f s
  | .gateContactOpen channel => Sys2Proof.Machine.execGateContactOpen channel s
  | .gateContactClose channel => Sys2Proof.Machine.execGateContactClose channel s
  | .egressRequest channel active => Sys2Proof.Machine.execEgressRequest channel active s
  | .fireInputActive => Sys2Proof.Machine.execFireInputActive s
  | .fireInputInactive => Sys2Proof.Machine.execFireInputInactive s
  | .rstAssert => Sys2Proof.Machine.execRstAssert s
  | .pinReset l => Sys2Proof.Machine.execPinReset l s
  | .coldReset l checkPasses => Sys2Proof.Machine.execColdReset l checkPasses s
  | .retentionReset l checkPasses => Sys2Proof.Machine.execRetentionReset l checkPasses s
  | .mainPowerLoss => Sys2Proof.Machine.execMainPowerLoss s
  | .secondTick => Sys2Proof.Machine.execSecondTick s
  | .minuteTick => Sys2Proof.Machine.execMinuteTick s
  | .entryDecision => Sys2Proof.Machine.execEntryDecision s
  | .exitDecision => Sys2Proof.Machine.execExitDecision s
  | .zoneDecision => Sys2Proof.Machine.execZoneDecision s
  | .carDecision => Sys2Proof.Machine.execCarDecision s
  | .loaderExamine svckey => Sys2Proof.Machine.execLoaderExamine svckey s
  | .releaseTimerExpiry channel => Sys2Proof.Machine.execReleaseTimerExpiry channel s
  | .heldOpenTimerExpiry channel => Sys2Proof.Machine.execHeldOpenTimerExpiry channel s
  | .pickTimerExpiry channel => Sys2Proof.Machine.execPickTimerExpiry channel s
  | .passageWindowDeadline station => Sys2Proof.Machine.execPassageWindowDeadline station s
  | .tripDeadline car => Sys2Proof.Machine.execTripDeadline car s
  | .editWindowExpiry => Sys2Proof.Machine.execEditWindowExpiry s
  | .integritySweep => Sys2Proof.Machine.execIntegritySweep s
  | .supplySample v => Sys2Proof.Machine.execSupplySample v s
  | .pwmPeriodStart => Sys2Proof.Machine.execPwmPeriodStart s
  | .vbatBelowHoldingLevel => Sys2Proof.Machine.execVbatBelowHoldingLevel s

end Sys2Proof.Machine
end

