-- ==== Sys2Proof/Machine/Step.lean ====
section
/-! DEFINITION. One step: the command at the front of the queue is taken. -/

namespace Sys2Proof.Machine

/-- The command at the front is run on the state with the rest of the queue; an empty queue idles (assumption log 2). -/
def step (s : State) : Host.Outcome State Fault Refusal :=
  match s.pending with
  | [] => .next s
  | i :: rest => exec i { s with pending := rest }

/-- The state with a command put at the front of its queue. -/
def State.pushFront (s : State) (i : Instr) : State := { s with pending := i :: s.pending }

/-- The state with the command that a word spells at the front of its queue; the same state where the word spells none. -/
def State.withFetchWord (s : State) (nbits w : Nat) : State :=
  match decodeTableWord nbits w with
  | some i => s.pushFront i
  | none => s

end Sys2Proof.Machine
end

