-- ==== Sys2Proof/Safety.lean ====
section
/-! DEFINITION. What the statements speak of: frames as a master sends them, what a taken frame leaves at its port, and the laws
that the manual says the blocks keep. -/

namespace Sys2Proof.Machine

/-! ## Frames -/

/-- The row of the table whose frames carry command `c`. -/
def frameInstr (c : Command) (f : Frame) : Instr :=
  match c with
  | .null => .null f
  | .readState => .readState f
  | .setClock => .setClock f
  | .profileWrite => .profileWrite f
  | .profileRead => .profileRead f
  | .selectTenant => .selectTenant f
  | .findTenant => .findTenant f
  | .tenantWrite => .tenantWrite f
  | .tenantRead => .tenantRead f
  | .tenantFree => .tenantFree f
  | .tenantState => .tenantState f
  | .assignUnit => .assignUnit f
  | .releaseUnit => .releaseUnit f
  | .unitRead => .unitRead f
  | .unitFloor => .unitFloor f
  | .unitService => .unitService f
  | .unitAck => .unitAck f
  | .rosterRead => .rosterRead f
  | .presenceRemove => .presenceRemove f
  | .overstayAck => .overstayAck f
  | .loadBegin => .loadBegin f
  | .loadData => .loadData f
  | .loadAbort => .loadAbort f
  | .logRead => .logRead f
  | .paramOpen => .paramOpen f
  | .paramWrite => .paramWrite f
  | .paramRead => .paramRead f
  | .paramClose => .paramClose f
  | .gatePulse => .gatePulse f
  | .channelRead => .channelRead f
  | .fireClear => .fireClear f
  | .fallbackEnter => .fallbackEnter f
  | .fallbackRelease => .fallbackRelease f
  | .deviceReset => .deviceReset f
  | .carQuery => .carQuery f
  | .carFetch => .carFetch f
  | .carAlight => .carAlight f
  | .carCancel => .carCancel f
  | .present => .present f
  | .verdictFetch => .verdictFetch f
  | .passed => .passed f
  | .noPassage => .noPassage f
  | .unitContact => .unitContact f
  | .stationOnline => .stationOnline f
  | .stationOffline => .stationOffline f
  | .repeatEnd => .repeatEnd f

/-- A whole frame at port `p` with the argument bytes `args`. -/
def whole (p : Port) (args : List Byte) (l : Lines) : Frame := { port := p, bytes := args, part := .whole, lines := l }

/-- The part runs and port `p` is outside repeat mode. -/
def State.takes (s : State) (p : Port) : Prop := s.running = true ∧ (s.port p).repeating = false

/-- The `n` bytes shifted out in a frame that opens at port `p` in `s` (R169): the status byte, the last-result byte, then
`data`, then FF. -/
def State.reply (s : State) (p : Port) (data : List Byte) (n : Nat) : List Byte :=
  (s.statusByte p :: byteOf (s.port p).lastResult.code :: (data ++ List.replicate n 0xFF)).take n

/-- What a frame leaves at its port: its result, no frame open, and the bytes shifted out. -/
def State.close (s : State) (p : Port) (r : ResultCode) (out : List Byte) : State :=
  s.setPort p { s.port p with lastResult := r, assembly := none, out }

/-- The state `after` that a whole frame of `n` bytes with result `r` and no data, taken in `s`, leaves behind. -/
def State.taken (s after : State) (p : Port) (r : ResultCode) (n : Nat) : State := after.close p r (s.reply p [] n)

/-- A whole frame of `n` bytes that has no effect: only its port's record changes (R170). -/
def State.untaken (s : State) (p : Port) (r : ResultCode) (n : Nat) : State := s.taken s p r n

/-! ## Who acts -/

/-- The line levels an event carries, where it carries any. -/
def linesOf : Instr → Option Lines
  | .null f | .readState f | .setClock f | .profileWrite f | .profileRead f | .selectTenant f | .findTenant f | .tenantWrite f
  | .tenantRead f | .tenantFree f | .tenantState f | .assignUnit f | .releaseUnit f | .unitRead f | .unitFloor f
  | .unitService f | .unitAck f | .rosterRead f | .presenceRemove f | .overstayAck f | .loadBegin f | .loadData f
  | .loadAbort f | .logRead f | .paramOpen f | .paramWrite f | .paramRead f | .paramClose f | .gatePulse f | .channelRead f
  | .fireClear f | .fallbackEnter f | .fallbackRelease f | .deviceReset f | .carQuery f | .carFetch f | .carAlight f
  | .carCancel f | .present f | .verdictFetch f | .passed f | .noPassage f | .unitContact f | .stationOnline f
  | .stationOffline f | .repeatEnd f | .repeatModeLeave f | .unknownCommand _ f => some f.lines
  | .pinReset l | .coldReset l _ | .retentionReset l _ => some l
  | .framing _ _ | .gateContactOpen _ | .gateContactClose _ | .egressRequest _ _ | .fireInputActive | .fireInputInactive
  | .rstAssert | .mainPowerLoss | .secondTick | .minuteTick | .entryDecision | .exitDecision | .zoneDecision | .carDecision
  | .loaderExamine _ | .releaseTimerExpiry _ | .heldOpenTimerExpiry _ | .pickTimerExpiry _ | .passageWindowDeadline _
  | .tripDeadline _ | .editWindowExpiry | .integritySweep | .supplySample _ | .pwmPeriodStart | .vbatBelowHoldingLevel => none

/-- SVCKEY is active at the event (R9). -/
def keyActive (i : Instr) : Bool :=
  match i with
  | .loaderExamine key => key
  | i => (linesOf i).any (·.svckey)

/-- The event makes a COLD reset of the part in state `s` (R160). -/
def makesCold (i : Instr) (s : State) : Bool :=
  match i with
  | .coldReset _ _ => true
  | .retentionReset _ _ => !s.power.retention
  | _ => false

/-- The events that reach a part held by RST (R160): the ticks, the power events, RST itself and the resets. -/
def reachesHeld : Instr → Bool
  | .rstAssert | .pinReset _ | .coldReset _ _ | .retentionReset _ _ | .mainPowerLoss | .vbatBelowHoldingLevel | .secondTick
  | .minuteTick => true
  | _ => false

/-! ## The laws of the blocks -/

/-- Rights tables (R3): no two slots in use hold the same credential. -/
def State.credentialLaw (s : State) : Prop :=
  ∀ i j, i < Config.tenantSlots → j < Config.tenantSlots → (s.tenant i).state ≠ .free → (s.tenant j).state ≠ .free →
    (s.tenant i).credential = (s.tenant j).credential → i = j

/-- Rights tables (R7): a unit names tenant T exactly when T's list holds it, no list holds more than 8 units or one twice. -/
def State.pairingLaw (s : State) : Prop :=
  (∀ u i, (s.unit u).tenant = some i ↔ u ∈ (s.tenant i).units) ∧
    ∀ i, (s.tenant i).units.Nodup ∧ (s.tenant i).units.length ≤ Config.unitsPerTenant

/-- R1: a FREE slot's unit list is empty. -/
def State.freeLaw (s : State) : Prop := ∀ i, (s.tenant i).state = .free → (s.tenant i).units = []

/-- R141: a buffered TENANT record names at most 8 units. -/
def State.bufferLaw (s : State) : Prop :=
  ∀ d us, LoadRecord.tenant d us ∈ s.loader.buffer → us.length ≤ Config.unitsPerTenant

/-- Site clock (R24, R28): the minute, the seconds and the grace counter keep their ranges. -/
def State.clockLaw (s : State) : Prop :=
  s.clock.minute < Config.weekMinutes ∧ s.clock.seconds < 60 ∧ ∀ g, s.clock.phase = .closing g → 1 ≤ g ∧ g ≤ 120

/-- Roster (R41): one record per slot, and records with reserved places never more than 256. A channel carries only a station
that exists, so that what completes is counted. -/
def State.rosterLaw (s : State) : Prop :=
  (s.roster.map (·.slot)).Nodup ∧ s.roster.length + s.placesHeld ≤ Config.rosterCapacity ∧
    ∀ c n, (s.channel c).carried = some n → n < Config.stationCount

/-- Roster (R42): a presence record names a slot that is not FREE. -/
def State.presentLaw (s : State) : Prop := ∀ p ∈ s.roster, (s.tenant p.slot).state ≠ .free

/-- Roster (R43): each tenant slot holds at most one reservation. -/
def State.reservationLaw (s : State) : Prop := (s.reservations.map (·.slot)).Nodup

/-- Roster (R40, R54): a countdown is present only in CLOSING, on an ON_SITE record, and equals the grace counter. -/
def State.countdownLaw (s : State) : Prop :=
  ∀ p ∈ s.roster, ∀ n, p.countdown = some n → s.clock.phase = .closing n ∧ p.state = .onSite

/-- Unit arming (R110, R104): a unit is DISARMED, or carries a visit mark, only while its tenant has a presence record. -/
def State.armingLaw (s : State) : Prop :=
  ∀ u, (s.unit u).arm = .disarmed ∨ (s.unit u).visit = true → ∃ i, (s.unit u).tenant = some i ∧ s.isPresent i = true

/-- Gate channels (R118 to R130): what each state says of the contact, the drive and the timers. -/
def Channel.lawful (x : Channel) : Prop :=
  (x.pickTimer.isSome → x.drive = .pick) ∧
    match x.state with
    | .secure => x.gateOpen = false ∧ x.drive = .off ∧ x.releaseTimer = none ∧ x.heldOpenTimer = none
    | .released => x.gateOpen = false ∧ x.drive ≠ .off ∧ x.releaseTimer.isSome ∧ x.heldOpenTimer = none
    | .passing => x.gateOpen = true ∧ (x.drive = .off ↔ x.releaseTimer = none) ∧ x.heldOpenTimer.isSome
    | .propped => x.gateOpen = true ∧ (x.drive = .off ↔ x.releaseTimer = none) ∧ x.heldOpenTimer = none
    | .forced => x.gateOpen = true ∧ x.drive = .off ∧ x.releaseTimer = none ∧ x.heldOpenTimer = none
    | .unlocked => x.drive ≠ .off ∧ x.releaseTimer = none ∧ x.heldOpenTimer = none

def State.channelLaw (s : State) : Prop := ∀ c, (s.channel c).lawful

/-- Gate channels (R119): while the part runs, a channel is UNLOCKED exactly while its unlocked condition holds. -/
def State.unlockedLaw (s : State) : Prop :=
  s.running = true → ∀ c, c < Config.channelCount → ((s.channel c).state = .unlocked ↔ s.unlockedCondition c = true)

/-- Gate channels (R132): the passage a channel carries is in flight at an existing station and names that channel. -/
def State.carriedLaw (s : State) : Prop :=
  ∀ c n, (s.channel c).carried = some n →
    n < Config.stationCount ∧ ∃ p, (s.station n).state = .passage p ∧ p.channel = some c

/-- Gate channels (R118, R61): no channel but 0 to 15 carries a passage, and no request waits that names another. -/
def State.rangeLaw (s : State) : Prop :=
  (∀ c, Config.channelCount ≤ c → (s.channel c).carried = none) ∧
    ∀ n r, (s.station n).state = .pending r → ∀ c ∈ r.config.channel, c < Config.channelCount

/-- Gate channels (7.2): a channel of mode LOCKED drives its strike only in UNLOCKED, while the fire latch is set and the channel
is not fire-secure. -/
def State.lockedLaw (s : State) : Prop :=
  ∀ c < Config.channelCount, s.channelMode c = .locked → (s.channel c).drive ≠ .off →
    (s.channel c).state = .unlocked ∧ s.control.fireLatch = true ∧ s.fireSecure c = false

/-- Bulk loader (R139): the counts of an ACTIVE load add up to the count accepted; the buffer holds at most 4 records, none of
them when IDLE; the next target stays inside its table or one past it. -/
def State.loaderLaw (s : State) : Prop :=
  let l := s.loader
  l.buffer.length ≤ Config.loaderBuffer ∧ l.nextTarget + l.remaining ≤ l.kind.tableSize ∧
    if l.active then l.committed + l.skipped + l.remaining = l.count ∧ l.buffer.length ≤ l.remaining ∧ 0 < l.remaining
    else l.buffer = []

/-- Parameter block (R156): while the mode is NORMAL and the edit window is CLOSED, the block sums to FFFFFFFF. -/
def State.paramLaw (s : State) : Prop := s.control.mode = .normal → s.window = none → s.blockGood = true

/-- Parameter block (R153, R157): the sweep timer runs exactly while the edit window is CLOSED. -/
def State.sweepLaw (s : State) : Prop := s.window = none ↔ s.sweep.isSome

/-- Event log (R165): at most 512 records, in the order of their sequence numbers, the newest just before the next number. -/
def State.logLaw (s : State) : Prop :=
  s.log.records.length ≤ Config.logCapacity ∧
    ∀ k r, s.log.records[k]? = some r → r.seq + BitVec.ofNat 16 (s.log.records.length - k) = s.log.next

/-- Port engines (R171): OFFICE has no repeat mode. -/
def State.portLaw (s : State) : Prop := s.office.repeating = false

/-- The MODEL's canonical form of its collections (assumption log 17). -/
def State.canonical (s : State) : Prop :=
  Table.wf TenantRecord.cold s.tenants ∧ Table.wf UnitRecord.cold s.units ∧ Table.wf ProfileRecord.cold s.profiles ∧
    Table.wf StationSlot.cold s.stations ∧ Table.wf CarSlot.cold s.cars ∧ Table.wf Channel.cold s.channels ∧
    Table.wf (0 : Word) s.params

/-! ## What the manual's tables say, apart from the machine -/

/-- The moment `k` units of `unit` microseconds from now. -/
def State.inTime (s : State) (k unit : Nat) : Option Nat := some (s.now + k * unit)

/-- R135: a drive that was OFF starts a pick; one that was on stays as it is. -/
def State.driven (s : State) (x : Channel) : Channel :=
  if x.drive = .off then { x with drive := .pick, pickTimer := s.inTime s.pickTime 10000 } else x

/-- R121, R122: channel `c` after a release of the given time in tenths. -/
def State.released (s : State) (c tenths : Nat) : Channel :=
  let x := s.channel c
  let timed := { x with releaseTimer := s.inTime tenths 100000 }
  match x.state with
  | .secure => s.driven { timed with state := .released }
  | .released => timed
  | .passing => s.driven timed
  | .propped => s.driven timed
  | .forced => s.driven { timed with state := .passing, heldOpenTimer := s.inTime s.heldOpenTime 1000000 }
  | .unlocked => x

/-- R122: the record a release appends. -/
def releaseEvents (x : Channel) (c : Nat) : List Event := if x.state = .forced then [.gateRestored .forced c] else []

/-- Records appended one after another in one event (R165). -/
def State.logged (s : State) (es : List Event) : State := es.foldl State.append s

/-! ### A change of the unlocked condition

`s1` is the state `s` with the cause of the change made: the mode byte written, the site phase moved, the fire latch set. -/

/-- R128: channel `c` enters UNLOCKED. -/
def State.enters (s s1 : State) (c : Nat) : Bool := s1.unlockedCondition c && (s.channel c).state != .unlocked

/-- R130: channel `c` stands outside UNLOCKED under the mode LOCKED. -/
def State.locks (s s1 : State) (c : Nat) : Bool :=
  !s1.unlockedCondition c && (s.channel c).state != .unlocked && s1.channelMode c == .locked

/-- R128, R129, R130: channel `c` after the change. -/
def State.channelMoved (s s1 : State) (c : Nat) : Channel :=
  let x := s.channel c
  let off : Channel := { x with drive := .off, pickTimer := none }
  if s.enters s1 c then s.driven { x with state := .unlocked, releaseTimer := none, heldOpenTimer := none }
  else if s.locks s1 c then { off with releaseTimer := none, state := if x.state = .released then .secure else x.state }
  else if x.state = .unlocked ∧ s1.unlockedCondition c = false then
    if x.gateOpen then { off with state := .passing, heldOpenTimer := s.inTime s.heldOpenTime 1000000 }
    else { off with state := .secure }
  else x

/-- R128, step 1: the records of the channels that enter UNLOCKED, of those the change reaches, in rising order (the order is the
MODEL's: assumption log 12). -/
def State.restoredEvents (s s1 : State) (reached : Nat → Bool) : List Event :=
  (List.range 16).filterMap fun c =>
    if reached c ∧ s.enters s1 c then
      match (s.channel c).state with
      | .forced => some (.gateRestored .forced c)
      | .propped => some (.gateRestored .propped c)
      | _ => none
    else none

/-- R79: the slot of station `n` after the channels of `handed` have handed the change to the passages they carry. -/
def State.handedWindow (s : State) (handed : Nat → Bool) (n : Nat) : StationSlot :=
  match (s.station n).state with
  | .passage p =>
    if p.governor = .release ∧ (List.range 16).any fun c => handed c && (s.channel c).carried == some n then
      { s.station n with state := .passage { p with governor := .window (s.now + s.passageWindow * 1000000) } }
    else s.station n
  | _ => s.station n

/-- R29, R31, R160: the channels that a move of the site phase is handed to: those of mode SCHEDULE, and none while RST is active. -/
def State.followsPhase (s : State) (c : Nat) : Bool := !s.power.rst && s.channelMode c == .schedule

/-- R29, R31, R79: channels and stations of `t` are those of `s` after the site phase has moved to that of `t`. -/
def State.phaseHanded (s t : State) : Prop :=
  let s1 : State := { s with clock := t.clock }
  (∀ c, t.channel c = if c < 16 ∧ s.followsPhase c = true then s.channelMoved s1 c else s.channel c) ∧
    ∀ n, t.station n = s.handedWindow (fun c => s.followsPhase c && s.enters s1 c) n

/-! ### The decision engine -/

/-- R67: the engine's next work is the request `r` of car `n`. -/
def State.nextCar (s : State) (n : Nat) (r : CarRequest) : Prop :=
  n < 4 ∧ (s.car n).state = .pending r ∧ ∀ k < n, ∀ q, (s.car k).state ≠ .pending q

/-- R67: the engine's next work is the request `r` of station `n`. -/
def State.nextStation (s : State) (n : Nat) (r : Request) : Prop :=
  (∀ k < 4, ∀ q, (s.car k).state ≠ .pending q) ∧ n < 64 ∧ (s.station n).state = .pending r ∧
    ∀ k < n, ∀ q, (s.station k).state ≠ .pending q

/-- R67: the engine's next work is the oldest loader record `r`. -/
def State.nextRecord (s : State) (r : LoadRecord) (rest : List LoadRecord) : Prop :=
  (∀ k < 4, ∀ q, (s.car k).state ≠ .pending q) ∧ (∀ k < 64, ∀ q, (s.station k).state ≠ .pending q) ∧
    s.loader.buffer = r :: rest

/-- R67: nothing waits for the engine. -/
def State.noWork (s : State) : Prop :=
  (∀ k < 4, ∀ q, (s.car k).state ≠ .pending q) ∧ (∀ k < 64, ∀ q, (s.station k).state ≠ .pending q) ∧ s.loader.buffer = []

/-- R68: `t` is the tenant of a request with credential `c`. -/
def State.requestTenant (s : State) (c : Credential) (t : Option Nat) : Prop :=
  match t with
  | some i => i < 2048 ∧ (s.tenant i).state ≠ .free ∧ (s.tenant i).credential = c
  | none => ∀ i < 2048, (s.tenant i).state = .free ∨ (s.tenant i).credential ≠ c

/-- R69, by its stages in order: the reason an ENTRY request of tenant `t` is denied with, if it is. -/
def State.entryDenial (s : State) (r : Request) (t : Option Nat) : Option DenyReason :=
  if s.control.fireLatch then some .fire
  else if s.control.mode = .fallback then some .fallback
  else
    match t with
    | none => some .unknown
    | some i =>
      let x := s.tenant i
      if x.state = .suspended then some .suspended
      else if x.state = .overlocked then some .overlocked
      else if x.role = .tenant ∧ s.clock.phase ≠ .opened then some .closed
      else if ¬(s.profile x.profile).admits s.clock.minute then some .hours
      else if x.role = .tenant ∧ x.units = [] then some .noUnits
      else if x.role = .tenant ∧ s.isPresent i ∧ s.passback = 2 then some .passback
      else if s.holdsReservation i then some .inTransit
      else if ¬s.isPresent i ∧ ¬s.roster.length + s.placesHeld < 256 then some .rosterFull
      else if ¬s.presentOn i 0 ∧ ¬(s.floorLimit 0 = 0 ∨ s.occupancy 0 + 1 ≤ s.floorLimit 0) then some .zoneFull
      else if ∃ c ∈ r.config.channel, s.channelMode c = .locked then some .gateLocked
      else none

/-- R71: the reason an EXIT request is denied with, if it is. -/
def State.exitDenial (s : State) (r : Request) (t : Option Nat) : Option DenyReason :=
  if s.control.fireLatch ∨ s.control.mode = .fallback then none
  else if t = none then some .unknown
  else if ∃ c ∈ r.config.channel, s.channelMode c = .locked then some .gateLocked
  else none

/-- R72, by its stages in order: the reason a ZONE request is denied with, if it is. -/
def State.zoneDenial (s : State) (r : Request) (t : Option Nat) : Option DenyReason :=
  let b := r.config.floor
  if s.control.fireLatch then some .fire
  else if s.control.mode = .fallback then some .fallback
  else
    match t with
    | none => some .unknown
    | some i =>
      let x := s.tenant i
      if x.state = .suspended then some .suspended
      else if ¬s.isPresent i then some .notOnSite
      else if x.state = .overlocked ∧ b ≠ 0 then some .overlocked
      else if b ≠ 0 ∧ ¬(s.profile x.profile).admits s.clock.minute then some .hours
      else if ¬s.inFloorSet i b then some .floor
      else if s.holdsReservation i then some .inTransit
      else if ¬s.presentOn i b ∧ ¬(s.floorLimit b = 0 ∨ s.occupancy b + 1 ≤ s.floorLimit b) then some .zoneFull
      else if ∃ c ∈ r.config.channel, s.channelMode c = .locked then some .gateLocked
      else none

/-- R92, by its stages in order: the reason a car request is denied with, if it is. -/
def State.carDenial (s : State) (r : CarRequest) (t : Option Nat) : Option DenyReason :=
  let b := r.floor
  if s.control.fireLatch then some .fire
  else if s.control.mode = .fallback then if b = 0 then none else some .fallback
  else
    match t with
    | none => some .unknown
    | some i =>
      let x := s.tenant i
      if x.state = .suspended then some .suspended
      else if ¬s.isPresent i then some .notOnSite
      else if x.state = .overlocked ∧ b ≠ 0 then some .overlocked
      else if b ≠ 0 ∧ ¬(s.profile x.profile).admits s.clock.minute then some .hours
      else if ¬s.inFloorSet i b then some .floor
      else if s.holdsReservation i then some .inTransit
      else if ¬s.presentOn i b ∧ ¬(s.floorLimit b = 0 ∨ s.occupancy b + 1 ≤ s.floorLimit b) then some .zoneFull
      else none

/-- R93: floor `f` is in the reachable-floor set of a car verdict for tenant `t`. -/
def State.reachable (s : State) (t : Option Nat) (f : Nat) : Prop :=
  if s.control.fireLatch then False
  else if s.control.mode = .fallback then f = 0
  else
    match t with
    | none => False
    | some i =>
      (s.tenant i).state ≠ .suspended ∧ s.isPresent i = true ∧ f < 16 ∧
        ((s.tenant i).state ≠ .overlocked ∨ f = 0) ∧
        (f = 0 ∨ (s.profile (s.tenant i).profile).admits s.clock.minute = true) ∧
        s.inFloorSet i f = true ∧
        (s.presentOn i f = true ∨ s.floorLimit f = 0 ∨ s.occupancy f + 1 ≤ s.floorLimit f)

/-- R73: `t` is `s` after station `n`'s request of tenant `who` was denied. Only the slot, the log, and the FIELD engine's
pending clearing of an older verdict's flag (R66) change. -/
def State.denies (s t : State) (n : Nat) (who : Option Nat) (reason : DenyReason) : Prop :=
  t.station n = { state := .ready, verdict := some { outcome := .deny reason, tenant := who, unfetched := true } } ∧
    (∀ m, m ≠ n → t.station m = s.station m) ∧
    t = { s.append (.denied reason (.station n) who) with stations := t.stations, field := s.field.withdrawFetch n }

/-- R74, R75, R80: `t` is `s` after station `n`'s request `r` was granted to `who` as a passage of the given kind, destination and
reservation, with a PASSBACK record where `pb` holds. -/
def State.grants (s t : State) (n : Nat) (r : Request) (kind : PassageKind) (dest : Option Nat) (who : Option Nat)
    (res : Option Reservation) (pb : Prop) [Decidable pb] : Prop :=
  let b := match who with
    | none => s.baseRelease
    | some i => if (s.tenant i).extended then min 250 (s.baseRelease * s.extendedFactor) else s.baseRelease
  let windowed := Governor.window (s.now + s.passageWindow * 1000000)
  t.station n =
      { state := .passage
          { kind, destination := dest, channel := r.config.channel
            holder := who.map fun i => { slot := i, enrolment := (s.tenant i).enrolment }
            reservation := res
            governor := if ∃ c ∈ r.config.channel, s.channelMode c ≠ .locked ∧ (s.channel c).state ≠ .unlocked then .release
              else windowed
            opened := decide (∃ c ∈ r.config.channel, (s.channel c).gateOpen = true) }
        verdict := some { outcome := .grant b, tenant := who, unfetched := true } } ∧
    (∀ m, m ≠ n → t.station m =
      match (s.station m).state with
      | .passage p =>
        if (∃ c ∈ r.config.channel, (s.channel c).carried = some m) ∧ p.governor = .release then
          { s.station m with state := .passage { p with governor := windowed } }
        else s.station m
      | _ => s.station m) ∧
    (∀ c, t.channel c =
      if r.config.channel = some c then
        { (if s.channelMode c ≠ .locked ∧ (s.channel c).state ≠ .unlocked then s.released c b else s.channel c) with
          carried := some n }
      else s.channel c) ∧
    t = { (s.logged ((match r.config.channel with
          | some c => if s.channelMode c ≠ .locked then releaseEvents (s.channel c) c else []
          | none => []) ++ if pb then [.passback kind n who] else [])) with
          stations := t.stations, channels := t.channels, field := s.field.withdrawFetch n }

/-- R48, by its checks: the completion is an orphan. -/
def State.orphaned (s : State) (kind : CompletionKind) (h : Holder) (r : Option Reservation) : Prop :=
  (s.tenant h.slot).state = .free ∨
    (s.tenant h.slot).enrolment ≠ h.enrolment ∨
    ((kind = .zone ∨ kind = .alight) ∧ s.isPresent h.slot = false) ∨
    (kind = .entry ∧ s.isPresent h.slot = false ∧ (∀ x ∈ r, x.place = false) ∧ 256 ≤ s.roster.length + s.placesHeld) ∨
    (kind = .entry ∧ s.isPresent h.slot = false ∧ (∀ x ∈ r, x.claim = none) ∧ s.floorLimit 0 ≠ 0 ∧
      s.floorLimit 0 < s.occupancy 0 + 1)

/-- R49: the record appended for an absent tenant. -/
def State.arrival (s : State) (slot : Nat) : Presence :=
  { slot, arrival := s.clock.minute, floor := 0
    state := if (s.tenant slot).role = .tenant ∧ s.clock.phase = .closed then .overstay else .onSite
    countdown := if (s.tenant slot).role = .tenant then s.clock.phase.graceCounter else none }

/-- R109: unit `u` after the entry hand-off of a tenant slot. -/
def State.unitEntered (s : State) (slot u : Nat) : UnitRecord :=
  if (s.tenant slot).state ≠ .overlocked ∧ u ∈ (s.tenant slot).units ∧ (s.unit u).arm = .armed then
    { s.unit u with arm := .disarmed, visit := true }
  else s.unit u

/-- R110: unit `u` after the exit hand-off of a tenant slot. -/
def State.unitLeft (s : State) (slot u : Nat) : UnitRecord :=
  let x := s.unit u
  if u ∈ (s.tenant slot).units then
    { x with
      visit := false
      arm := if x.arm = .disarmed then
          if x.contact = .opened then .alarm .leftOpen
          else if (s.tenant slot).state = .overlocked then .overlock else .armed
        else x.arm }
  else x

/-- R110: the records of the exit hand-off of a tenant slot, in list order. -/
def State.leftOpen (s : State) (slot : Nat) : List Event :=
  ((s.tenant slot).units.filter fun u => (s.unit u).arm = .disarmed ∧ (s.unit u).contact = .opened).map
    fun u => .unitAlarm .leftOpen u (s.unit u).tenant

/-- The roster with the floor of a slot's record set (R49, R51). -/
def rosterMoved (slot floor : Nat) (r : List Presence) : List Presence :=
  r.map fun p => if p.slot = slot then { p with floor } else p

/-- R48 to R52, R109, R110: `t` is `s` after a completion with the captured holder, reservation and destination, and the
completion record `done`. The slot that held the passage or trip is not part of it. -/
def State.completes (s t : State) (kind : CompletionKind) (h : Option Holder) (r : Option Reservation) (dest : Nat)
    (subject : Subject) (done : Event) : Prop :=
  match h with
  | none => t = s.append done
  | some h =>
    (s.orphaned kind h r → t = s.append (.orphan kind subject h.slot)) ∧
    (¬s.orphaned kind h r →
      match kind with
      | .entry =>
        (∀ u, t.unit u = s.unitEntered h.slot u) ∧
          t = { s.logged ((if s.isPresent h.slot = false ∧ (s.arrival h.slot).state = .overstay then
                  [.overstay h.slot 0] else []) ++ [done]) with
                units := t.units
                roster := if s.isPresent h.slot then rosterMoved h.slot 0 s.roster else s.roster ++ [s.arrival h.slot] }
      | .exit =>
        if s.isPresent h.slot then
          (∀ u, t.unit u = s.unitLeft h.slot u) ∧
            t = { s.logged (done :: s.leftOpen h.slot) with
                  units := t.units, roster := s.roster.filter fun p => p.slot ≠ h.slot }
        else t = s.append done
      | .zone => t = { s.append done with roster := rosterMoved h.slot dest s.roster }
      | .alight => t = { s.append done with roster := rosterMoved h.slot dest s.roster })

/-- R108: unit `u` after a change of its contact to OPEN. -/
def UnitRecord.opening (x : UnitRecord) : UnitRecord :=
  { x with
    contact := .opened
    arm := match x.arm with
      | .vacant => .alarm .openedVacant
      | .armed => .alarm .openedArmed
      | .overlock => .alarm .openedOverlocked
      | a => a }

/-- R108: the record of an opening. -/
def UnitRecord.openingEvents (x : UnitRecord) (u : Nat) : List Event :=
  match x.arm with
  | .vacant => [.unitAlarm .openedVacant u x.tenant]
  | .armed => [.unitAlarm .openedArmed u x.tenant]
  | .overlock => [.unitAlarm .openedOverlocked u x.tenant]
  | .disarmed => [.unitOpened u x.tenant]
  | .alarm _ => []
  | .service => []

/-- R105: `a` is the target state of unit `u`. -/
def State.isTarget (s : State) (u : Nat) (a : ArmState) : Prop :=
  match (s.unit u).tenant with
  | none => a = .vacant
  | some i =>
    if s.isPresent i = true ∧ (s.tenant i).state ≠ .overlocked then a = .disarmed
    else if s.isPresent i = true ∧ (s.unit u).visit = true then a = .disarmed
    else if (s.tenant i).state = .overlocked then a = .overlock
    else a = .armed

/-- A unit that goes to arm state `a`; DISARMED sets the visit mark (R104). -/
def UnitRecord.toArm (x : UnitRecord) (a : ArmState) : UnitRecord := { x with arm := a, visit := x.visit || a = .disarmed }

/-- R115: a unit released from its tenant. -/
def UnitRecord.freed (x : UnitRecord) : UnitRecord :=
  { x with
    tenant := none, visit := false
    arm := if x.arm.stays then x.arm else if x.contact = .opened then .alarm .openedVacant else .vacant }

/-- R115: the record of a release. -/
def UnitRecord.freedEvents (x : UnitRecord) (u : Nat) : List Event :=
  if x.arm.stays = false ∧ x.contact = .opened then [.unitAlarm .openedVacant u none] else []

/-- R156: the records of a closing of the edit window, with the mode's change. -/
def State.closed (s : State) (cause : ModeCause) : State :=
  let events := (if s.blockGood then [] else
      .paramFault cause s.blockSum :: if s.control.mode = .normal then [.mode cause .fallback] else []) ++
    ((List.range 16).filter fun c => 2 ≤ s.namesCount c).map fun c => .paramWarn c (s.namesCount c)
  { s.logged events with
    window := none, sweep := s.inTime 1 100000
    control := if s.blockGood then s.control else { s.control with mode := .fallback } }

end Sys2Proof.Machine
end

