-- ==== Sys2Proof/WellFormed.lean ====
section
/-! DEFINITION. Well-formed commands: what the rows' own words ask of their operands. An ill-formed command is still taken as the
frame its bytes are. -/

namespace Sys2Proof

/-- A frame whose code is not in the command table (R170). -/
def unlistedCode (code : Byte) : Bool := (Machine.commandOf code).isNone

/-- Check of UNKNOWN_COMMAND: the code is unlisted. Check of REPEAT_MODE_LEAVE: the port has a repeat mode (R174). Every other
row admits every operand. -/
def Instr.wellFormed : Instr → Bool
  | .unknownCommand code _ => unlistedCode code
  | .repeatModeLeave f => f.port != .office
  | _ => true

end Sys2Proof
end

