-- ==== Sys2Proof/Certificates/Slice0/Obligations.lean ====
section
/-! DEFINITION. The statements for the provers. Each docstring names the rules of spec/ it formalises and the rows of the opcode
table it says something about. -/

section
open Sys2Proof Sys2Proof.Machine

/-! ## The queue and the frames (chapter 11) -/

/-- A step takes the command at the front of the queue and runs it on the state with the rest; an empty queue idles (the MODEL's
queue: assumption logs 1 and 2). -/
def Obligations.StepRunsTheFrontCommand : Prop :=
  ∀ (s : State) (c : Instr) (rest : List Instr),
    (s.pending = c :: rest → step s = exec c { s with pending := rest }) ∧ (s.pending = [] → step s = .next s)

/-- Every command completes with a next state, and none touches the queue of waiting commands (the queue is the MODEL's:
assumption log 1). -/
def Obligations.EveryCommandCompletesAndKeepsTheQueue : Prop :=
  ∀ (i : Instr) (s : State), ∃ t, exec i s = .next t ∧ t.pending = s.pending

/-- R169, R170, R171, R174: a whole frame that fails the permission or the length check, or whose code is unlisted, changes
nothing but its port's record, and shifts out FF after the status and last-result bytes; a frame that ends inside a byte
besides ends repeat mode, and shifts out what a read in it has sampled; NULL, and REPEAT_END outside repeat mode, have the
result OK and no effect (REPEAT_END is not permitted on OFFICE); in repeat mode first byte FF leaves it. Rows UNKNOWN_COMMAND,
FRAMING, NULL, REPEAT_END and REPEAT_MODE_LEAVE complete here. (The frame that stands open at a FRAMING is the MODEL's:
assumption log 3; the bytes before the data of a read with two argument bytes are free: log 13.) -/
def Obligations.FramesWithoutEffect : Prop :=
  (∀ (s : State) (p : Port) (l : Lines) (args : List Byte),
    (s.takes p → ∀ c, permitted c p = false →
      exec (frameInstr c (whole p args l)) s = .next (s.untaken p .notPermitted (args.length + 1))) ∧
    (s.takes p → ∀ c, permitted c p = true → args.length < argumentBytes c s.loader args →
      ∃ k, exec (frameInstr c (whole p args l)) s = .next { s.untaken p .short (args.length + 1) with fills := k }) ∧
    (s.takes p → ∀ code, unlistedCode code = true →
      exec (.unknownCommand code (whole p args l)) s = .next (s.untaken p .unknownCommand (args.length + 1)))) ∧
  (∀ (s : State) (p : Port) (wire : List Byte), s.running = true →
    let ended := fun (st : Byte) (fill data : List Byte) (n k : Nat) =>
      ({ s.setPort p
          { lastResult := .framing, repeating := false, assembly := none
            out := (st :: byteOf (s.port p).lastResult.code :: (fill ++ data ++ List.replicate n 0xFF)).take n } with
         fills := k } : State)
    ((s.port p).assembly = none →
      ((∀ c args, wire = commandCode c :: args → (s.port p).repeating = true ∨ isRead c = false ∨ permitted c p = false ∨
          args.length < argumentBytes c s.loader args) →
        ∃ k, exec (.framing p wire) s = .next (ended (s.statusByte p) [] [] wire.length k)) ∧
      ∀ c args, wire = commandCode c :: args → s.takes p → isRead c = true → permitted c p = true →
        argumentBytes c s.loader args ≤ args.length →
        ∃ fill k, fill.length = argumentBytes c s.loader args - 1 ∧
          exec (.framing p wire) s = .next (ended (s.statusByte p) fill (sampleOf c args s).data wire.length k)) ∧
    ∀ c args st m, (s.port p).assembly = some { wire := commandCode c :: args, status := st, sample := some m } → s.takes p →
      isRead c = true → permitted c p = true →
      ∃ fill k, fill.length = argumentBytes c s.loader (args ++ wire) - 1 ∧
        exec (.framing p wire) s = .next (ended st fill m.data (args.length + 1 + wire.length) k)) ∧
  (∀ (s : State) (p : Port) (l : Lines) (args : List Byte),
    (s.takes p → exec (.null (whole p args l)) s = .next (s.untaken p .ok (args.length + 1))) ∧
    (s.takes p → exec (.repeatEnd (whole p args l)) s =
      .next (s.untaken p (if p = .office then .notPermitted else .ok) (args.length + 1))) ∧
    (s.running = true → (s.port p).repeating = true →
      exec (.repeatModeLeave (whole p args l)) s =
          .next (s.taken (s.setPort p { s.port p with repeating := false }) p .ok (args.length + 1)) ∧
        exec (.repeatEnd (whole p args l)) s = exec (.repeatModeLeave (whole p args l)) s))

/-- R174: a PRESENT on FIELD or a CAR QUERY on LIFT in repeat mode, sent without its code, has the checks and the effect of the
frame with the code; the port stays in repeat mode whatever the result, and a short one is refused SHORT. A frame with any other
code but FF is read, code and all, as the arguments of the repeat command. -/
def Obligations.RepeatModeFramesActAsCoded : Prop :=
  (∀ (s : State) (l : Lines) (args : List Byte), s.running = true →
    (s.field.repeating = true →
      (∀ c, c ≠ .present → c ≠ .repeatEnd →
        exec (frameInstr c (whole .field args l)) s = exec (.present (whole .field (commandCode c :: args) l)) s) ∧
      ∀ code, code ≠ 0xFF →
        exec (.unknownCommand code (whole .field args l)) s = exec (.present (whole .field (code :: args) l)) s) ∧
    (s.lift.repeating = true →
      (∀ c, c ≠ .carQuery → c ≠ .repeatEnd →
        exec (frameInstr c (whole .lift args l)) s = exec (.carQuery (whole .lift (commandCode c :: args) l)) s) ∧
      ∀ code, code ≠ 0xFF →
        exec (.unknownCommand code (whole .lift args l)) s = exec (.carQuery (whole .lift (code :: args) l)) s)) ∧
  ∀ (s : State) (l : Lines) (args : List Byte), s.running = true → byteAt args 0 ≠ 0xFF → args ≠ [] →
    (s.field.repeating = true →
      (args.length < 6 → exec (.present (whole .field args l)) s = .next (s.untaken .field .short args.length)) ∧
      (6 ≤ args.length → ∃ t, exec (.present (whole .field args l)) { s with field := { s.field with repeating := false } } =
          .next t ∧
        exec (.present (whole .field args l)) s =
          .next { t with field := { t.field with repeating := true, out := s.reply .field [] args.length } })) ∧
    (s.lift.repeating = true →
      (args.length < 7 → exec (.carQuery (whole .lift args l)) s = .next (s.untaken .lift .short args.length)) ∧
      (7 ≤ args.length → ∃ t, exec (.carQuery (whole .lift args l)) { s with lift := { s.lift with repeating := false } } =
          .next t ∧
        exec (.carQuery (whole .lift args l)) s =
          .next { t with lift := { t.lift with repeating := true, out := s.reply .lift [] args.length } }))

/-- R169, R170: at the falling edge of xSEL the status byte is sampled, and a read's data as soon as its arguments are
complete, in the event that clocks their last byte; the end of the frame shifts out what was sampled, whatever the state has
become. A frame that is no read acts at its end, on the state as it stands then, as the whole frame of its bytes does. (That a
frame is divided into events is the MODEL's: assumption log 3; the byte after a first of two argument bytes is free: log 13.
What the end of LOG READ, VERDICT FETCH and CAR FETCH does besides is said in `LogAppendAndRead` and `VerdictAndCarFetch`.) -/
def Obligations.FramesSampleAtTheirOpeningAndActAtTheirEnd : Prop :=
  (∀ (s : State) (p : Port) (l : Lines) (c : Command) (args more : List Byte), isRead c = true → permitted c p = true →
    s.takes p →
    (∃ m, exec (frameInstr c { port := p, bytes := args, part := .opening, lines := l }) s =
        .next (s.setPort p { s.port p with
          assembly := some { wire := commandCode c :: args, status := s.statusByte p, sample := m } }) ∧
      (argumentBytes c s.loader args ≤ args.length → m = some (sampleOf c args s)) ∧
      (args.length < argumentBytes c s.loader args → m = none)) ∧
    (∀ st m, (s.port p).assembly = some { wire := commandCode c :: args, status := st, sample := some m } →
      argumentBytes c s.loader args ≤ args.length → c ≠ .logRead → c ≠ .verdictFetch → c ≠ .carFetch →
      ∃ fill k, fill.length = argumentBytes c s.loader args - 1 ∧
        exec (frameInstr c { port := p, bytes := more, part := .closing, lines := l }) s =
          .next { s.close p m.result ((st :: byteOf (s.port p).lastResult.code ::
                    (fill ++ m.data ++ List.replicate (args.length + more.length + 1) 0xFF)).take
                      (args.length + more.length + 1)) with fills := k }) ∧
    (∀ st, (s.port p).assembly = some { wire := commandCode c :: args, status := st, sample := none } →
      let e := exec (frameInstr c { port := p, bytes := more, part := .closing, lines := l })
      (argumentBytes c s.loader (args ++ more) ≤ (args ++ more).length →
        e s = e (s.setPort p { s.port p with
          assembly := some { wire := commandCode c :: args, status := st, sample := some (sampleOf c (args ++ more) s) } })) ∧
      ((args ++ more).length < argumentBytes c s.loader (args ++ more) →
        ∃ k, e s = .next { s.close p .short ((st :: byteOf (s.port p).lastResult.code ::
          List.replicate ((args ++ more).length + 1) 0xFF).take ((args ++ more).length + 1)) with fills := k }))) ∧
  (∀ (s : State) (p : Port) (l : Lines) (c : Command) (args more : List Byte) (st : Byte), isRead c = false → s.takes p →
    (s.port p).assembly = some { wire := commandCode c :: args, status := st, sample := none } →
    ∃ t, exec (frameInstr c (whole p (args ++ more) l)) s = .next t ∧
      exec (frameInstr c { port := p, bytes := more, part := .closing, lines := l }) s =
        .next (t.setPort p { t.port p with out := st :: (t.port p).out.tail })) ∧
  (∀ (s t : State) (p : Port) (l : Lines) (c : Command) (args : List Byte), s.running = true →
    (exec (frameInstr c { port := p, bytes := args, part := .opening, lines := l }) s = .next t →
      ∃ fr, (t.port p).assembly = some fr ∧ fr.status = s.statusByte p) ∧
    (∀ fr, (s.port p).assembly = some fr → fr.wire ≠ [] →
      exec (frameInstr c { port := p, bytes := args, part := .closing, lines := l }) s = .next t →
      (t.port p).out.head? = some fr.status)) ∧
  (∀ (s : State) (p : Port) (l : Lines) (c d : Command) (args more : List Byte) (st : Byte),
    let held := fun wire sample =>
      s.setPort p { s.port p with assembly := some { wire, status := st, sample } }
    let reads := fun args : List Byte =>
      if isRead c = true ∧ permitted c p = true ∧ argumentBytes c s.loader args ≤ args.length then some (sampleOf c args s)
      else none
    let clock := fun d : Command => exec (frameInstr d { port := p, bytes := more, part := .middle, lines := l }) s
    (s.running = true → st = s.statusByte p →
      exec (frameInstr c { port := p, bytes := args, part := .select, lines := l }) s = .next (held [] none)) ∧
    (s.running = true → (s.port p).assembly = none → clock c = .next s) ∧
    (s.takes p → (s.port p).assembly = some { wire := [], status := st, sample := none } →
      clock c = .next (held (commandCode c :: more) (reads more))) ∧
    (s.takes p → (s.port p).assembly = some { wire := commandCode c :: args, status := st, sample := none } →
      clock d = .next (held (commandCode c :: (args ++ more)) (reads (args ++ more)))) ∧
    (s.running = true → (s.port p).assembly = some { wire := [], status := st, sample := none } →
      exec (frameInstr c { port := p, bytes := [], part := .closing, lines := l }) s =
        .next (s.setPort p { s.port p with assembly := none })) ∧
    ∀ m, s.running = true → (s.port p).assembly = some { wire := commandCode c :: args, status := st, sample := some m } →
      clock d = .next (held (commandCode c :: (args ++ more)) (some m)))

/-- R172, R173, R168: the bits of the status byte, which a frame shifts out first, as it stands when it opens; the attention
condition of each port (log records, an unfetched car verdict, an unfetched station verdict); an ATN line follows it and is
inactive while RST is active (that it is so without main power too is the MODEL's: assumption log 11). The clause on the byte
shifted out is about whole frames of the listed commands outside repeat mode. -/
def Obligations.StatusByteAndAttentionLines : Prop :=
  (∀ (s : State) (p : Port),
    (s.statusByte p).getLsbD 7 = (s.control.mode == .fallback) ∧
    (s.statusByte p).getLsbD 6 = s.control.fireLatch ∧
    (s.statusByte p).getLsbD 5 = s.attention p ∧
    (s.statusByte p).getLsbD 4 = (s.port p).repeating ∧
    (s.statusByte p).getLsbD 3 = (p == .office && s.loader.active) ∧
    (s.statusByte p).getLsbD 2 = (p == .office && s.window.isSome) ∧
    (s.statusByte p).getLsbD 1 = s.control.tableFault ∧
    (s.statusByte p).getLsbD 0 = true ∧
    ∀ c l args t, s.takes p → exec (frameInstr c (whole p args l)) s = .next t →
      (t.port p).out.head? = some (s.statusByte p)) ∧
  (∀ s : State,
    (s.attention .office = true ↔ s.log.records ≠ []) ∧
    (s.attention .lift = true ↔ ∃ n < 4, ∃ v, (s.car n).verdict = some v ∧ v.unfetched = true) ∧
    (s.attention .field = true ↔ ∃ n < 64, ∃ v, (s.station n).verdict = some v ∧ v.unfetched = true) ∧
    ∀ p, s.atn p = true ↔ s.attention p = true ∧ s.running = true)

/-! ## Rights tables (chapter 1) -/

/-- R11, R12: SELECT TENANT; every reset sets the cursor to none; nothing else but a FIND TENANT that finds a match moves it;
FIND TENANT with an invalid credential, with one that a slot in use holds (unique by R3), and with one that none holds. -/
def Obligations.SelectionCursor : Prop :=
  ((∀ (s : State) (l : Lines) (args : List Byte), s.takes .office → 2 ≤ args.length →
    exec (.selectTenant (whole .office args l)) s =
      .next (if wordAt args 0 < 2048 then s.taken { s with cursor := some (wordAt args 0) } .office .ok (args.length + 1)
        else s.untaken .office .badArgument (args.length + 1))) ∧
  (∀ (s t : State) (l : Lines) (b : Bool),
    (exec (.coldReset l b) s = .next t → t.cursor = none) ∧
    (exec (.retentionReset l b) s = .next t → t.cursor = none) ∧
    (s.power.main = true → exec (.pinReset l) s = .next t → t.cursor = none) ∧
    (∀ args, s.takes .office → exec (.deviceReset (whole .office args l)) s = .next t → t.cursor = none)) ∧
  (∀ (s t : State) (c : Command) (p : Port) (l : Lines) (args : List Byte), c ≠ .selectTenant → c ≠ .deviceReset →
    exec (frameInstr c (whole p args l)) s = .next t → (c = .findTenant → t.office.lastResult ≠ .ok) → t.cursor = s.cursor) ∧
  (∀ (s t : State) (i : Instr), linesOf i = none → exec i s = .next t → t.cursor = s.cursor) ∧
  (∀ (s t : State) (code : Byte) (p : Port) (l : Lines) (args : List Byte), unlistedCode code = true →
    exec (.unknownCommand code (whole p args l)) s = .next t ∨ exec (.repeatModeLeave (whole p args l)) s = .next t →
    t.cursor = s.cursor)) ∧
  (∀ (s : State) (l : Lines) (args : List Byte), s.takes .office → 5 ≤ args.length →
    (credentialOf (byteAt args 0) (longAt args 1) = none →
      exec (.findTenant (whole .office args l)) s = .next (s.untaken .office .badArgument (args.length + 1))) ∧
    ∀ c, credentialOf (byteAt args 0) (longAt args 1) = some c →
      (∀ i, s.credentialLaw → i < 2048 → (s.tenant i).state ≠ .free → (s.tenant i).credential = c →
        exec (.findTenant (whole .office args l)) s =
          .next (s.taken { s with cursor := some i } .office .ok (args.length + 1))) ∧
      ((∀ i < 2048, (s.tenant i).state = .free ∨ (s.tenant i).credential ≠ c) →
        exec (.findTenant (whole .office args l)) s = .next (s.untaken .office .notFound (args.length + 1))))

/-- R3, R175, 11.8: the credentials a frame can carry (KEYPAD with 4 to 8 digits and a code below 10 to that power; CARD with
any code, its digit count disregarded); and the bytes of a tenant's details read back as those details, for every value they
can take. -/
def Obligations.CredentialsAndDetailsReadBack : Prop :=
  (∀ (b : Byte) (code : Word),
    credentialOf b code =
      if b.toNat / 16 = 0 ∧ 4 ≤ b.toNat % 16 ∧ b.toNat % 16 ≤ 8 ∧ code.toNat < 10 ^ (b.toNat % 16) then
        some (.keypad (b.toNat % 16) code)
      else if b.toNat / 16 = 1 then some (.card code) else none) ∧
  (∀ (d : TenantDetails) (rest : List Byte), d.credential.valid = true → d.profile < 16 → detailsAt (d.bytes ++ rest) 0 = some d)

/-- R13: TENANT WRITE, by its checks in order; a FREE slot becomes ACTIVE with the next enrolment, one in use is rewritten.
The carried details are refused for an undefined role or kind, an invalid credential or a profile of 16 or more, and are the
frame's fields. -/
def Obligations.TenantWrite : Prop :=
  (∀ args : List Byte,
    (detailsAt args 0 = none ↔
      2 ≤ natAt args 0 % 4 ∨ credentialOf (byteAt args 1) (longAt args 3) = none ∨ 16 ≤ natAt args 2) ∧
    ∀ d, detailsAt args 0 = some d →
      d.role = (if natAt args 0 % 4 = 0 then .tenant else .staff) ∧ d.extended = (byteAt args 0).getLsbD 7 ∧
        credentialOf (byteAt args 1) (longAt args 3) = some d.credential ∧ d.profile = natAt args 2) ∧
  ∀ (s : State) (l : Lines) (args : List Byte), s.takes .office → 8 ≤ args.length →
    let n := args.length + 1
    exec (.tenantWrite (whole .office args l)) s = .next (
      match detailsAt args 0, s.cursor with
      | none, _ => s.untaken .office .badArgument n
      | some _, none => s.untaken .office .noSelection n
      | some d, some i =>
        if s.loader.active = true ∧ s.loader.kind = .tenant then s.untaken .office .busy n
        else if i < s.protectedCount ∧ l.svckey = false then s.untaken .office .isProtected n
        else if (List.range 2048).any fun j => j ≠ i ∧ (s.tenant j).state ≠ .free ∧ (s.tenant j).credential = d.credential then
          s.untaken .office .duplicate n
        else s.taken (s.setTenant i
          { s.tenant i with
            role := d.role, extended := d.extended, credential := d.credential, profile := d.profile
            state := if (s.tenant i).state = .free then .active else (s.tenant i).state
            enrolment := if (s.tenant i).state = .free then (s.tenant i).enrolment + 1 else (s.tenant i).enrolment })
          .office .ok n)

/-- R16, R112, R15, R115: TENANT STATE taken, with the moves of the slot's units at a change into or out of OVERLOCKED; TENANT
FREE taken, with every unit of the slot released, first to last. -/
def Obligations.TenantStateAndFreeTaken : Prop :=
  (∀ (s : State) (l : Lines) (args : List Byte) (i : Nat) (new : TenantState), s.takes .office → 1 ≤ args.length →
    newStateOf (byteAt args 0) = some new → s.cursor = some i → ¬(s.loader.active = true ∧ s.loader.kind = .tenant) →
    (s.protectedCount ≤ i ∨ l.svckey = true) → (s.tenant i).state ≠ .free →
    (∀ u ∈ (s.tenant i).units, (s.unit u).tenant = some i) →
    ∃ t, exec (.tenantState (whole .office args l)) s = .next (s.taken t .office .ok (args.length + 1)) ∧
      t = { s.setTenant i { s.tenant i with state := new } with units := t.units } ∧
      ∀ u, t.unit u =
        if u ∈ (s.tenant i).units ∧ new = .overlocked ∧ (s.tenant i).state ≠ .overlocked ∧ (s.unit u).arm = .armed then
          { s.unit u with arm := .overlock }
        else if u ∈ (s.tenant i).units ∧ new ≠ .overlocked ∧ (s.tenant i).state = .overlocked ∧ (s.unit u).arm = .overlock then
          (s.unit u).toArm (if s.isPresent i = true then .disarmed else .armed)
        else s.unit u) ∧
  (∀ (s : State) (l : Lines) (args : List Byte) (i : Nat), s.takes .office → s.cursor = some i →
    ¬(s.loader.active = true ∧ s.loader.kind = .tenant) → (s.protectedCount ≤ i ∨ l.svckey = true) →
    (s.tenant i).state ≠ .free → s.isPresent i = false → (s.tenant i).units.Nodup →
    ∃ t, exec (.tenantFree (whole .office args l)) s = .next (s.taken t .office .ok (args.length + 1)) ∧
      t = { (s.setTenant i { s.tenant i with state := .free, units := [] }).logged
              ((s.tenant i).units.flatMap fun u => (s.unit u).freedEvents u) with units := t.units } ∧
      ∀ u, t.unit u = if u ∈ (s.tenant i).units then (s.unit u).freed else s.unit u)

/-- R17, R114, R18, R115: ASSIGN UNIT and RELEASE UNIT taken: both sides of the pairing in one command, and the unit's arm
state. -/
def Obligations.AssignAndReleaseUnitTaken : Prop :=
  (∀ (s : State) (l : Lines) (args : List Byte) (i u : Nat), s.takes .office → 2 ≤ args.length → u = wordAt args 0 →
    u < 3072 → s.cursor = some i → ¬(s.loader.active = true ∧ s.loader.kind = .tenant) →
    (s.protectedCount ≤ i ∨ l.svckey = true) → (s.tenant i).state ≠ .free → (s.unit u).tenant = none →
    (s.tenant i).units.length < 8 →
    ∃ a, exec (.assignUnit (whole .office args l)) s =
        .next (s.taken ((s.setTenant i { s.tenant i with units := (s.tenant i).units ++ [u] }).setUnit u
          { (s.unit u).toArm a with tenant := some i, visit := (s.unit u).visit || (!(s.unit u).arm.stays && a = .disarmed) })
          .office .ok (args.length + 1)) ∧
      if (s.unit u).arm.stays = true then a = (s.unit u).arm
      else (s.setUnit u { s.unit u with tenant := some i }).isTarget u a) ∧
  (∀ (s : State) (l : Lines) (args : List Byte) (i u : Nat), s.takes .office → 2 ≤ args.length → u = wordAt args 0 →
    u < 3072 → s.cursor = some i → ¬(s.loader.active = true ∧ s.loader.kind = .tenant) →
    (s.protectedCount ≤ i ∨ l.svckey = true) → (s.tenant i).state ≠ .free → u ∈ (s.tenant i).units →
    exec (.releaseUnit (whole .office args l)) s =
      .next (s.taken (((s.setTenant i { s.tenant i with units := (s.tenant i).units.filter fun x => x ≠ u }).setUnit u
        (s.unit u).freed).logged ((s.unit u).freedEvents u)) .office .ok (args.length + 1)))

/-- R10: the checks of TENANT STATE, TENANT FREE, ASSIGN UNIT and RELEASE UNIT in their order; a refused command has no effect. -/
def Obligations.TenantEditRefusals : Prop :=
  ∀ (s : State) (l : Lines) (args : List Byte) (c : Command), s.takes .office →
    c = .tenantState ∨ c = .tenantFree ∨ c = .assignUnit ∨ c = .releaseUnit → argumentBytes c s.loader args ≤ args.length →
    let u := wordAt args 0
    let bad := (c = .tenantState ∧ newStateOf (byteAt args 0) = none) ∨ ((c = .assignUnit ∨ c = .releaseUnit) ∧ 3072 ≤ u)
    let refused := fun r => exec (frameInstr c (whole .office args l)) s = .next (s.untaken .office r (args.length + 1))
    (bad → refused .badArgument) ∧
    (¬bad → s.cursor = none → refused .noSelection) ∧
    ∀ i, ¬bad → s.cursor = some i →
      (s.loader.active = true ∧ s.loader.kind = .tenant → refused .busy) ∧
      (¬(s.loader.active = true ∧ s.loader.kind = .tenant) →
        (i < s.protectedCount ∧ l.svckey = false → refused .isProtected) ∧
        (¬(i < s.protectedCount ∧ l.svckey = false) →
          ((s.tenant i).state = .free → refused .state) ∧
          ((s.tenant i).state ≠ .free →
            (c = .tenantFree → s.isPresent i = true → refused .onSite) ∧
            (c = .assignUnit → (s.unit u).tenant = some i → refused .duplicate) ∧
            (c = .assignUnit → (∃ j, j ≠ i ∧ (s.unit u).tenant = some j) → refused .unitTaken) ∧
            (c = .assignUnit → (s.unit u).tenant = none → 8 ≤ (s.tenant i).units.length → refused .listFull) ∧
            (c = .releaseUnit → u ∉ (s.tenant i).units → refused .notFound))))

/-- R20, R21: UNIT FLOOR and PROFILE WRITE, by their checks in order. -/
def Obligations.UnitFloorAndProfileWrite : Prop :=
  ∀ (s : State) (l : Lines) (args : List Byte), s.takes .office →
    let n := args.length + 1
    (3 ≤ args.length → exec (.unitFloor (whole .office args l)) s = .next (
      if 3072 ≤ wordAt args 0 ∨ 16 ≤ natAt args 2 then s.untaken .office .badArgument n
      else if s.loader.active = true ∧ s.loader.kind = .unitFloor then s.untaken .office .busy n
      else if (s.unit (wordAt args 0)).tenant ≠ none then s.untaken .office .unitTaken n
      else s.taken (s.setUnit (wordAt args 0) { s.unit (wordAt args 0) with floor := natAt args 2 }) .office .ok n)) ∧
    (18 ≤ args.length → exec (.profileWrite (whole .office args l)) s = .next (
      if 16 ≤ natAt args 0 ∨ 2 ≤ natAt args 1 ∨ (List.range 8).any fun k => 10080 ≤ wordAt args (2 + 2 * k) then
        s.untaken .office .badArgument n
      else s.taken (s.setProfile (natAt args 0)
        { kind := if natAt args 1 = 0 then .anytime else .windowed
          windows := [⟨wordAt args 2, wordAt args 4⟩, ⟨wordAt args 6, wordAt args 8⟩, ⟨wordAt args 10, wordAt args 12⟩,
            ⟨wordAt args 14, wordAt args 16⟩] }) .office .ok n))

/-- R14, R19, R22: what TENANT READ, UNIT READ and PROFILE READ shift out; they change nothing but their port's record (and, for
UNIT READ, the count of free bytes drawn: assumption log 13). -/
def Obligations.RightsTableReads : Prop :=
  ∀ (s : State) (l : Lines) (args : List Byte), s.takes .office →
    let n := args.length + 1
    exec (.tenantRead (whole .office args l)) s = .next (
      match s.cursor with
      | none => s.untaken .office .noSelection n
      | some i =>
        let x := s.tenant i
        s.close .office .ok (s.reply .office
          (wordBytes i ++ [byteOf x.state.code, roleByte x.role x.extended, x.credential.kindByte, byteOf x.profile] ++
            longBytes x.credential.code ++ [x.enrolment, byteOf x.units.length] ++ x.units.flatMap wordBytes) n)) ∧
    (2 ≤ args.length → ∃ fill : Byte, exec (.unitRead (whole .office args l)) s = .next
      { (if 3072 ≤ wordAt args 0 then s.close .office .badArgument (s.reply .office [fill] n)
        else
          let x := s.unit (wordAt args 0)
          s.close .office .ok (s.reply .office
            ([fill, byteOf x.floor] ++ wordBytes (x.tenant.getD 0xFFFF) ++
              [byteOf x.arm.code, byteOf x.contact.code,
                match x.arm with
                | .alarm c => byteOf c.code
                | _ => 0xFF]) n)) with fills := s.fills + 1 }) ∧
    (1 ≤ args.length → exec (.profileRead (whole .office args l)) s = .next (
      if 16 ≤ natAt args 0 then s.untaken .office .badArgument n
      else
        let x := s.profile (natAt args 0)
        s.close .office .ok (s.reply .office
          (byteOf x.kind.code :: x.windows.flatMap fun w => wordBytes w.start ++ wordBytes w.stop) n)))

/-! ## Site clock (chapter 2) -/

/-- R25, R27 to R31, R53 to R55, R79, R128, R129, R160: a second, and a minute tick in each case of the phase table, with its
hand-offs to the roster and, while RST is inactive, to the SCHEDULE channels and the passages they carry; a tick that falls
while main power is absent counts and evaluates nothing. (The order of several channels' GATE_RESTORED records is the MODEL's:
assumption log 12. With the retention not valid either, the clock does not count: log 11.) -/
def Obligations.SecondAndMinuteTicks : Prop :=
  ∀ s : State, s.clock.minute < 10080 →
    let m := if s.clock.minute = 10079 then 0 else s.clock.minute + 1
    let isOpen := s.openMinute (m / 1440) ≤ m % 1440 ∧ m % 1440 < s.closeMinute (m / 1440)
    let ticked : State := { s with clock := { s.clock with minute := m, seconds := 0 } }
    (s.power.main = true ∨ s.power.retention = true →
      (s.clock.seconds < 59 →
        exec .secondTick s = .next { s with clock := { s.clock with seconds := s.clock.seconds + 1 } }) ∧
      (s.clock.seconds = 59 → exec .secondTick s = exec .minuteTick s)) ∧
    (s.power.main = false → s.power.retention = true → exec .minuteTick s = .next ticked) ∧
    (s.power.main = false → s.power.retention = false →
      exec .secondTick s = .next s ∧ exec .minuteTick s = .next s) ∧
    (s.power.main = true →
      ∃ t, exec .minuteTick s = .next t ∧ t.clock.minute = m ∧ t.clock.seconds = 0 ∧
        t = { s with clock := t.clock, roster := t.roster, channels := t.channels, stations := t.stations, log := t.log } ∧
        let restored := s.restoredEvents { s with clock := t.clock } s.followsPhase
        (s.clock.phase = .opened → isOpen → t = ticked) ∧
        (s.clock.phase = .opened → ¬isOpen →
          t.clock.phase = (if s.grace = 0 then .closed else .closing s.grace) ∧
          t.roster = s.roster.map (fun p =>
            if (s.tenant p.slot).role = .tenant ∧ p.state = .onSite then
              if s.grace = 0 then { p with state := .overstay, countdown := none } else { p with countdown := some s.grace }
            else p) ∧
          t.log = (ticked.logged (.siteClose s.grace ::
            (if s.grace = 0 then
              (s.roster.filter fun p => (s.tenant p.slot).role = .tenant ∧ p.state = .onSite).map fun p => .overstay p.slot p.floor
            else []) ++ restored)).log ∧
          s.phaseHanded t) ∧
        (∀ g, s.clock.phase = .closing g → ¬isOpen →
          t.clock.phase = (if g ≤ 1 then .closed else .closing (g - 1)) ∧
          t.roster = s.roster.map (fun p =>
            match p.countdown with
            | none => p
            | some k => if k ≤ 1 then { p with state := .overstay, countdown := none } else { p with countdown := some (k - 1) }) ∧
          t.log = (ticked.logged
            ((s.roster.filter fun p => p.countdown.any fun k => k ≤ 1).map fun p => .overstay p.slot p.floor)).log ∧
          t.channels = s.channels ∧ t.stations = s.stations) ∧
        (s.clock.phase ≠ .opened → isOpen →
          t.clock.phase = .opened ∧ t.roster = s.roster.map (fun p => { p with countdown := none }) ∧
          t.log = (ticked.logged (.siteOpen :: restored)).log ∧ s.phaseHanded t) ∧
        (s.clock.phase = .closed → ¬isOpen → t = ticked))

/-- R26, R32, R29, R31, R53, R55, R79, R128, R129: SET CLOCK: the minute, the seconds, CLOCK_SET with the minute held before
stamped with the new one, and an evaluation that makes no closing tick; a close or an open event with its hand-offs to the
roster, the SCHEDULE channels and the passages they carry. (The order of several channels' GATE_RESTORED records is the
MODEL's: assumption log 12.) -/
def Obligations.SetClock : Prop :=
  ∀ (s : State) (l : Lines) (args : List Byte), s.takes .office → 2 ≤ args.length →
    let n := args.length + 1
    let m := wordAt args 0
    let isOpen := s.openMinute (m / 1440) ≤ m % 1440 ∧ m % 1440 < s.closeMinute (m / 1440)
    let s1 := ({ s with clock := { s.clock with minute := m, seconds := 0 } } : State).append (.clockSet s.clock.minute)
    let moved := fun t : State => t = { s with
      clock := t.clock, roster := t.roster, channels := t.channels, stations := t.stations, log := t.log }
    let restored := fun t : State => s.restoredEvents { s with clock := t.clock } s.followsPhase
    (10080 ≤ m → exec (.setClock (whole .office args l)) s = .next (s.untaken .office .badArgument n)) ∧
    (m < 10080 → (s.clock.phase = .opened ↔ isOpen) →
      exec (.setClock (whole .office args l)) s = .next (s.taken s1 .office .ok n)) ∧
    (m < 10080 → s.clock.phase = .opened → ¬isOpen → ∃ t,
      exec (.setClock (whole .office args l)) s = .next (s.taken t .office .ok n) ∧ moved t ∧
      t.clock = { minute := m, seconds := 0, phase := if s.grace = 0 then .closed else .closing s.grace } ∧
      t.roster = s.roster.map (fun p =>
        if (s.tenant p.slot).role = .tenant ∧ p.state = .onSite then
          if s.grace = 0 then { p with state := .overstay, countdown := none } else { p with countdown := some s.grace }
        else p) ∧
      t.log = (s1.logged (.siteClose s.grace ::
        (if s.grace = 0 then
          (s.roster.filter fun p => (s.tenant p.slot).role = .tenant ∧ p.state = .onSite).map fun p => .overstay p.slot p.floor
        else []) ++ restored t)).log ∧
      s.phaseHanded t) ∧
    (m < 10080 → s.clock.phase ≠ .opened → isOpen → ∃ t,
      exec (.setClock (whole .office args l)) s = .next (s.taken t .office .ok n) ∧ moved t ∧
      t.clock = { minute := m, seconds := 0, phase := .opened } ∧
      t.roster = s.roster.map (fun p => { p with countdown := none }) ∧
      t.log = (s1.logged (.siteOpen :: restored t)).log ∧ s.phaseHanded t)

/-- R35, R36, R37: which minutes a window contains; its length is the number of minutes of the week inside it; a minute inside two
windows of a profile is inside them once; what the profile test answers. -/
def Obligations.WindowLengthCountsItsMinutes : Prop :=
  (∀ w : Window, w.start < 10080 → w.stop < 10080 →
    (∀ t < 10080, w.contains t = true ↔
      (w.start < w.stop ∧ w.start ≤ t ∧ t < w.stop) ∨ (w.stop < w.start ∧ (w.start ≤ t ∨ t < w.stop))) ∧
    (List.range 10080).countP w.contains = w.length ∧ w.length ≤ 10079 ∧
    (w.start = w.stop → w.length = 0) ∧
    (w.start ≠ w.stop → (w.length : Int) = ((w.stop : Int) - w.start) % 10080) ∧
    (w.start ≠ w.stop → w.contains w.start = true ∧ w.contains w.stop = false)) ∧
  ∀ (p : ProfileRecord) (t : Nat),
    (p.kind = .anytime → p.admits t = true) ∧
    (p.kind = .windowed → (p.admits t = true ↔ ∃ w ∈ p.windows, w.contains t = true))

/-! ## Roster and unit arming (chapters 3 and 6) -/

/-- R57, R56: PRESENCE REMOVE, with its exit hand-off to the units (R110), and OVERSTAY ACK, by their checks in order. -/
def Obligations.PresenceRemoveAndOverstayAck : Prop :=
  ∀ (s : State) (l : Lines) (args : List Byte), s.takes .office → 2 ≤ args.length →
    let n := args.length + 1
    let slot := wordAt args 0
    (2048 ≤ slot → exec (.presenceRemove (whole .office args l)) s = .next (s.untaken .office .badArgument n) ∧
      exec (.overstayAck (whole .office args l)) s = .next (s.untaken .office .badArgument n)) ∧
    (slot < 2048 → s.isPresent slot = false →
      exec (.presenceRemove (whole .office args l)) s = .next (s.untaken .office .notFound n) ∧
      exec (.overstayAck (whole .office args l)) s = .next (s.untaken .office .notFound n)) ∧
    ∀ p, slot < 2048 → s.presence slot = some p →
      ((s.tenant slot).units.Nodup → ∃ t,
        exec (.presenceRemove (whole .office args l)) s = .next (s.taken t .office .ok n) ∧
        (∀ u, t.unit u = s.unitLeft slot u) ∧
        t = { s.logged (.presenceRemoved slot p.floor :: s.leftOpen slot) with
              units := t.units, roster := s.roster.filter fun q => q.slot ≠ slot }) ∧
      (p.state = .onSite → exec (.overstayAck (whole .office args l)) s = .next (s.untaken .office .state n)) ∧
      (p.state = .overstay → exec (.overstayAck (whole .office args l)) s = .next (s.taken { s with
        roster := s.roster.map fun q => if q.slot = slot then { q with state := .onSite, countdown := none } else q }
        .office .ok n))

/-- R59, R133, R155: ROSTER READ, CHANNEL READ and PARAM READ. (Timers are held as the moments they expire: assumption log 6;
the byte shifted out during a second argument byte is free: log 13.) -/
def Obligations.OfficeTableReads : Prop :=
  (∀ (s : State) (l : Lines) (args : List Byte), s.takes .office → 2 ≤ args.length →
    let n := args.length + 1
    ∃ fill : Byte, exec (.rosterRead (whole .office args l)) s = .next
      { (if natAt args 1 = 0 ∨ 16 < natAt args 1 then s.close .office .badArgument (s.reply .office [fill] n)
        else s.close .office .ok (s.reply .office (fill :: (List.range (natAt args 1)).flatMap fun k =>
          match if natAt args 0 + k < 256 then s.roster[natAt args 0 + k]? else none with
          | some p => wordBytes p.slot ++ wordBytes p.arrival ++
              [byteOf p.floor, byteOf p.state.code, byteOf (p.countdown.getD 0xFF)]
          | none => [0xFF, 0xFF, 0xFF, 0xFF, 0xFF, 0xFF, 0xFF]) n)) with fills := s.fills + 1 }) ∧
  (∀ (s : State) (l : Lines) (args : List Byte), s.takes .office → 1 ≤ args.length →
    let n := args.length + 1
    let c := numberOf (byteAt args 0)
    let x := s.channel c
    let left := fun (timer : Option Nat) (unit : Nat) =>
      match timer with
      | none => [0xFF, 0xFF]
      | some e => wordBytes ((e - s.now + (unit - 1)) / unit)
    exec (.channelRead (whole .office args l)) s = .next (
      if 16 ≤ c then s.untaken .office .badArgument n
      else s.close .office .ok (s.reply .office
        ([s.modeByte c, byteOf x.state.code, if x.gateOpen then 1 else 0, byteOf x.drive.code, if x.egress then 1 else 0] ++
          left x.releaseTimer 100000 ++ left x.heldOpenTimer 1000000 ++ [byteOf (x.carried.getD 0xFF)]) n)) ∧
    exec (.paramRead (whole .office args l)) s = .next (
      if 52 ≤ natAt args 0 then s.untaken .office .badArgument n
      else
        let w := s.param (natAt args 0)
        s.close .office .ok (s.reply .office
          [w.extractLsb' 24 8, w.extractLsb' 16 8, w.extractLsb' 8 8, w.extractLsb' 0 8] n)))

/-- R107, R108: UNIT CONTACT: an undefined value or unit is refused, an unchanged contact changes nothing, CLOSED sets the contact
alone, and OPEN acts on the arm state. -/
def Obligations.UnitContactReport : Prop :=
  ∀ (s : State) (l : Lines) (args : List Byte), s.takes .field → 3 ≤ args.length →
    let u := wordAt args 0
    let x := s.unit u
    exec (.unitContact (whole .field args l)) s = .next (
      if 3072 ≤ u ∨ 2 ≤ natAt args 2 then s.untaken .field .badArgument (args.length + 1)
      else s.taken (
        if natAt args 2 = 0 then if x.contact = .closed then s else s.setUnit u { x with contact := .closed }
        else if x.contact = .opened then s else (s.setUnit u x.opening).logged (x.openingEvents u))
        .field .ok (args.length + 1))

/-- R111, R113, R105, R106: UNIT ACK and UNIT SERVICE, by their checks in order: an acknowledged unit goes to its target state;
service on drops a standing alarm, off goes to the target state or raises its alarm. -/
def Obligations.UnitAckAndService : Prop :=
  (∀ (s : State) (l : Lines) (args : List Byte), s.takes .office → 2 ≤ args.length →
    let n := args.length + 1
    let u := wordAt args 0
    (3072 ≤ u → exec (.unitAck (whole .office args l)) s = .next (s.untaken .office .badArgument n)) ∧
    (u < 3072 → (∀ c, (s.unit u).arm ≠ .alarm c) →
      exec (.unitAck (whole .office args l)) s = .next (s.untaken .office .state n)) ∧
    ∀ c, u < 3072 → (s.unit u).arm = .alarm c →
      ((s.unit u).contact = .opened →
        exec (.unitAck (whole .office args l)) s = .next (s.untaken .office .contactOpen n)) ∧
      ((s.unit u).contact ≠ .opened → ∀ a, s.isTarget u a →
        exec (.unitAck (whole .office args l)) s = .next (s.taken
          ((s.setUnit u ((s.unit u).toArm a)).append (.unitAck c u (s.unit u).tenant)) .office .ok n))) ∧
  (∀ (s : State) (l : Lines) (args : List Byte), s.takes .office → 3 ≤ args.length →
    let n := args.length + 1
    let u := wordAt args 0
    let x := s.unit u
    (3072 ≤ u ∨ 2 ≤ natAt args 2 → exec (.unitService (whole .office args l)) s = .next (s.untaken .office .badArgument n)) ∧
    (u < 3072 → natAt args 2 = 1 → exec (.unitService (whole .office args l)) s =
      .next (if x.arm = .service then s.untaken .office .state n
        else s.taken (s.setUnit u { x with arm := .service }) .office .ok n)) ∧
    (u < 3072 → natAt args 2 = 0 → x.arm ≠ .service →
      exec (.unitService (whole .office args l)) s = .next (s.untaken .office .state n)) ∧
    (u < 3072 → natAt args 2 = 0 → x.arm = .service → ∀ a, s.isTarget u a →
      exec (.unitService (whole .office args l)) s = .next (s.taken (
        if x.contact = .opened then
          match a with
          | .vacant => (s.setUnit u { x with arm := .alarm .openedVacant }).append (.unitAlarm .openedVacant u x.tenant)
          | .armed => (s.setUnit u { x with arm := .alarm .openedArmed }).append (.unitAlarm .openedArmed u x.tenant)
          | .overlock => (s.setUnit u { x with arm := .alarm .openedOverlocked }).append (.unitAlarm .openedOverlocked u x.tenant)
          | a => s.setUnit u (x.toArm a)
        else s.setUnit u (x.toArm a)) .office .ok n)))

/-! ## Stations (chapter 4) -/

/-- R63, R64: STATION ONLINE and STATION OFFLINE, by their checks in order; OFFLINE abandons a passage in flight. -/
def Obligations.StationOnlineAndOffline : Prop :=
  ∀ (s : State) (l : Lines) (args : List Byte), s.takes .field → 1 ≤ args.length →
    let k := args.length + 1
    let n := numberOf (byteAt args 0)
    exec (.stationOnline (whole .field args l)) s = .next (
      if 64 ≤ n then s.untaken .field .badArgument k
      else if (s.station n).state ≠ .offline then s.untaken .field .state k
      else s.taken (s.setStation n { s.station n with state := .ready }) .field .ok k) ∧
    exec (.stationOffline (whole .field args l)) s = .next (
      if 64 ≤ n then s.untaken .field .badArgument k
      else
        match (s.station n).state with
        | .offline => s.untaken .field .state k
        | .passage p =>
          let ended := (s.append (.passageAbandoned .offline n (p.holder.map (·.slot)))).setStation n
            { s.station n with state := .offline }
          s.taken (match p.channel with
            | some c =>
              if (s.channel c).carried = some n then ended.setChannel c { s.channel c with carried := none } else ended
            | none => ended) .field .ok k
        | _ => s.taken (s.setStation n { s.station n with state := .offline }) .field .ok k)

/-- R65, R61, R90, R174: PRESENT and CAR QUERY, by their checks in order: the request goes into the slot's buffer (a
presentation with the station's effective configuration), and a set repeat flag puts the port into repeat mode. -/
def Obligations.PresentationsAndQueriesAreBuffered : Prop :=
  (∀ (s : State) (l : Lines) (args : List Byte), s.takes .field → 6 ≤ args.length →
    let k := args.length + 1
    let n := numberOf (byteAt args 0)
    exec (.present (whole .field args l)) s = .next (
      match credentialOf (byteAt args 1) (longAt args 2) with
      | none => s.untaken .field .badArgument k
      | some c =>
        if 64 ≤ n then s.untaken .field .badArgument k
        else if (s.station n).state = .offline then s.untaken .field .offline k
        else if (s.station n).state ≠ .ready then s.untaken .field .slotBusy k
        else if s.mapType n = .none then s.untaken .field .state k
        else
          let shared := (List.range n).any fun m => s.mapType m ≠ .none ∧ s.mapChannel m = s.mapChannel n
          let request : Request :=
            { credential := c
              config :=
                { type := s.mapType n
                  floor := s.mapFloor n
                  channel := if 16 ≤ s.mapChannel n ∨ shared then none else some (s.mapChannel n) } }
          let present := s.setStation n { s.station n with state := .pending request }
          s.taken { present with field := { s.field with repeating := (byteAt args 0).getLsbD 7 } } .field .ok k)) ∧
  (∀ (s : State) (l : Lines) (args : List Byte), s.takes .lift → 7 ≤ args.length →
    let k := args.length + 1
    let n := numberOf (byteAt args 0)
    exec (.carQuery (whole .lift args l)) s = .next (
      match credentialOf (byteAt args 1) (longAt args 2) with
      | none => s.untaken .lift .badArgument k
      | some c =>
        if 4 ≤ n ∨ 16 ≤ natAt args 6 then s.untaken .lift .badArgument k
        else if (s.car n).state ≠ .idle then s.untaken .lift .slotBusy k
        else
          let query := s.setCar n { s.car n with state := .pending { credential := c, floor := natAt args 6 } }
          s.taken { query with lift := { s.lift with repeating := (byteAt args 0).getLsbD 7 } } .lift .ok k))

/-- R66, R96: VERDICT FETCH and CAR FETCH: the record as it stands, and its unfetched flag cleared. In a frame of several
events (the MODEL's: assumption log 3) the record sampled is shifted out at the end, and the flag is cleared unless a verdict
formed meanwhile has withdrawn the clearing. -/
def Obligations.VerdictAndCarFetch : Prop :=
  (∀ (s : State) (l : Lines) (args : List Byte), s.takes .field → 1 ≤ args.length →
    let k := args.length + 1
    let n := numberOf (byteAt args 0)
    exec (.verdictFetch (whole .field args l)) s = .next (
      if 64 ≤ n then s.untaken .field .badArgument k
      else
        match (s.station n).verdict with
        | none => s.untaken .field .state k
        | some v => (s.setStation n { s.station n with verdict := some { v with unfetched := false } }).close .field .ok
            (s.reply .field (match v.outcome with
              | .grant b => [0x00, 0x00] ++ wordBytes (v.tenant.getD 0xFFFF) ++ [byteOf b]
              | .deny r => [0x01, byteOf r.code] ++ wordBytes (v.tenant.getD 0xFFFF) ++ [0x00]) k))) ∧
  (∀ (s : State) (l : Lines) (args : List Byte), s.takes .lift → 1 ≤ args.length →
    let k := args.length + 1
    let n := numberOf (byteAt args 0)
    (4 ≤ n → exec (.carFetch (whole .lift args l)) s = .next (s.untaken .lift .badArgument k)) ∧
    (n < 4 → (s.car n).verdict = none → exec (.carFetch (whole .lift args l)) s = .next (s.untaken .lift .state k)) ∧
    ∀ v, n < 4 → (s.car n).verdict = some v → ∃ floors : BitVec 16,
      (∀ f (h : f < 16), floors[f] = decide (f ∈ v.reachable)) ∧
      exec (.carFetch (whole .lift args l)) s =
        .next ((s.setCar n { s.car n with verdict := some { v with unfetched := false } }).close .lift .ok
          (s.reply .lift ((match v.outcome with
              | .grant => [0x00, 0x00]
              | .deny r => [0x01, byteOf r.code]) ++ wordBytes (v.tenant.getD 0xFFFF) ++ [byteOf v.destination] ++
            wordBytes floors.toNat) k))) ∧
  (∀ (s : State) (l : Lines) (args more : List Byte) (st : Byte) (m : Sample), 1 ≤ args.length →
    let k := args.length + more.length + 1
    let n := numberOf (byteAt args 0)
    let out := fun last : ResultCode => (st :: byteOf last.code :: (m.data ++ List.replicate k 0xFF)).take k
    (let e := exec (.verdictFetch { port := .field, bytes := more, part := .closing, lines := l }) s;
      (sampleOf .verdictFetch args s).fetch = (if n < 64 ∧ (s.station n).verdict.isSome then some n else none) ∧
      (s.takes .field → s.field.assembly = some { wire := commandCode .verdictFetch :: args, status := st, sample := some m } →
        (m.result ≠ .ok ∨ m.fetch = none → e = .next (s.close .field m.result (out s.field.lastResult))) ∧
        ∀ j v, m.result = .ok → m.fetch = some j → (s.station j).verdict = some v →
          e = .next ((s.setStation j { s.station j with verdict := some { v with unfetched := false } }).close .field .ok
            (out s.field.lastResult)))) ∧
    (let e := exec (.carFetch { port := .lift, bytes := more, part := .closing, lines := l }) s;
      (sampleOf .carFetch args s).fetch = (if n < 4 ∧ (s.car n).verdict.isSome then some n else none) ∧
      (s.takes .lift → s.lift.assembly = some { wire := commandCode .carFetch :: args, status := st, sample := some m } →
        (m.result ≠ .ok ∨ m.fetch = none → e = .next (s.close .lift m.result (out s.lift.lastResult))) ∧
        ∀ j v, m.result = .ok → m.fetch = some j → (s.car j).verdict = some v →
          e = .next ((s.setCar j { s.car j with verdict := some { v with unfetched := false } }).close .lift .ok
            (out s.lift.lastResult))))) ∧
  (∀ (x : PortState) (n : Nat),
    (∀ fr m, x.assembly = some fr → fr.sample = some m → m.fetch = some n →
      x.withdrawFetch n = { x with assembly := some { fr with sample := some { m with fetch := none } } }) ∧
    ((∀ fr m, x.assembly = some fr → fr.sample = some m → m.fetch ≠ some n) → x.withdrawFetch n = x))

/-- R67 to R70, R73 to R75, R43: ENTRY_DECISION on the engine's next work; a grant's release time (R38), its release (R121, R122)
and the passage it replaces (R80), a verdict's flag (R66). R45, R46: the places held and the occupancy of a floor count the
roster and the reservations of the passages and trips in flight. -/
def Obligations.EntryDecision : Prop :=
  (∀ (s : State) (f : Nat),
    let counts := fun (test : Reservation → Bool) =>
      (List.range 64).countP (fun n =>
        match (s.station n).state with
        | .passage p => p.reservation.any test
        | _ => false) +
      (List.range 4).countP (fun n =>
        match (s.car n).state with
        | .trip tr => tr.reservation.any test
        | _ => false)
    s.placesHeld = counts (fun r => r.place) ∧
      s.occupancy f = s.roster.countP (fun p => p.floor = f) + counts (fun r => r.claim = some f)) ∧
  ∀ (s : State) (n : Nat) (r : Request) (who : Option Nat), s.running = true → s.nextStation n r → r.config.type = .entry →
    s.credentialLaw → s.requestTenant r.credential who →
    ∃ t, exec .entryDecision s = .next t ∧
      match s.entryDenial r who with
      | some reason => s.denies t n who reason
      | none => ∃ i, who = some i ∧
          s.grants t n r .entry (some 0) who
            (some { slot := i, place := !s.isPresent i, claim := if s.presentOn i 0 = true then none else some 0 })
            ((s.tenant i).role = .tenant ∧ s.isPresent i = true ∧ s.passback = 1)

/-- R67, R68, R71, R73 to R75: EXIT_DECISION on the engine's next work, with R38, R66, R80, R121 and R122 as for an ENTRY. -/
def Obligations.ExitDecision : Prop :=
  ∀ (s : State) (n : Nat) (r : Request) (who : Option Nat), s.running = true → s.nextStation n r → r.config.type = .exit →
    s.credentialLaw → s.requestTenant r.credential who →
    ∃ t, exec .exitDecision s = .next t ∧
      match s.exitDenial r who with
      | some reason => s.denies t n who reason
      | none => s.grants t n r .exit none who none
          (s.control.fireLatch = false ∧ s.control.mode = .normal ∧ ∀ i ∈ who, s.isPresent i = false)

/-- R67, R68, R72 to R75, R43: ZONE_DECISION on the engine's next work, with R38, R66, R80, R121 and R122 as for an ENTRY. R5: the
floor set of a tenant slot. -/
def Obligations.ZoneDecision : Prop :=
  (∀ (s : State) (i f : Nat), s.inFloorSet i f = true ↔
    f < 16 ∧ ((s.tenant i).role = .staff ∨ f = 0 ∨ ∃ u ∈ (s.tenant i).units, (s.unit u).floor = f)) ∧
  ∀ (s : State) (n : Nat) (r : Request) (who : Option Nat), s.running = true → s.nextStation n r → r.config.type = .zone →
    s.credentialLaw → s.requestTenant r.credential who →
    ∃ t, exec .zoneDecision s = .next t ∧
      match s.zoneDenial r who with
      | some reason => s.denies t n who reason
      | none => ∃ i, who = some i ∧
          s.grants t n r .zone (some r.config.floor) who
            (some { slot := i, place := false,
                    claim := if s.presentOn i r.config.floor = true then none else some r.config.floor }) False

/-- R67: with cars pending the engine takes no station, with either no loader record: the four decision rows and LOADER_EXAMINE
change nothing unless their kind of work comes first, and none of them anything where no work waits (the MODEL's rows: assumption
log 9). -/
def Obligations.ServiceOrder : Prop :=
  ∀ (s : State) (n : Nat),
    (∀ r, s.nextCar n r → exec .entryDecision s = .next s ∧ exec .exitDecision s = .next s ∧ exec .zoneDecision s = .next s ∧
      ∀ key, exec (.loaderExamine key) s = .next s) ∧
    (∀ r, s.nextStation n r → exec .carDecision s = .next s ∧ (∀ key, exec (.loaderExamine key) s = .next s) ∧
      (r.config.type ≠ .entry → exec .entryDecision s = .next s) ∧
      (r.config.type ≠ .exit → exec .exitDecision s = .next s) ∧
      (r.config.type ≠ .zone → exec .zoneDecision s = .next s)) ∧
    (∀ r rest, s.nextRecord r rest → exec .carDecision s = .next s ∧ exec .entryDecision s = .next s ∧
      exec .exitDecision s = .next s ∧ exec .zoneDecision s = .next s) ∧
    (s.noWork → exec .carDecision s = .next s ∧ exec .entryDecision s = .next s ∧ exec .exitDecision s = .next s ∧
      exec .zoneDecision s = .next s ∧ ∀ key, exec (.loaderExamine key) s = .next s)

/-- R81, R83, R48 to R52, R82, R84, R78: PASSED, by its checks, and the completion it makes; NO PASSAGE, by its checks, and
PASSAGE_WINDOW_DEADLINE, and the abandonment each makes. -/
def Obligations.PassagesEndByTheField : Prop :=
  (∀ (s : State) (l : Lines) (args : List Byte), s.takes .field → 1 ≤ args.length →
    let k := args.length + 1
    let n := numberOf (byteAt args 0)
    (64 ≤ n → exec (.passed (whole .field args l)) s = .next (s.untaken .field .badArgument k)) ∧
    (n < 64 → (∀ p, (s.station n).state = .passage p → p.channel ≠ none) →
      exec (.passed (whole .field args l)) s = .next (s.untaken .field .state k)) ∧
    (∀ p, n < 64 → (s.station n).state = .passage p → p.channel = none → (∀ i, (s.tenant i).units.Nodup) →
      ∃ t, exec (.passed (whole .field args l)) s =
          .next (s.taken (t.setStation n { s.station n with state := .ready }) .field .ok k) ∧
        s.completes t (match p.kind with
            | .entry => .entry
            | .exit => .exit
            | .zone => .zone) p.holder p.reservation (p.destination.getD 0) (.station n)
          (match p.kind with
            | .entry => .entry n (p.holder.map (·.slot))
            | .exit => .exit n (p.holder.map (·.slot))
            | .zone => .zonePass (p.destination.getD 0) n (p.holder.map (·.slot))))) ∧
  (∀ (s : State) (l : Lines) (args : List Byte),
    (s.takes .field → 1 ≤ args.length →
      let k := args.length + 1
      let n := numberOf (byteAt args 0)
      (64 ≤ n → exec (.noPassage (whole .field args l)) s = .next (s.untaken .field .badArgument k)) ∧
      (n < 64 → (∀ p, (s.station n).state = .passage p → p.channel ≠ none) →
        exec (.noPassage (whole .field args l)) s = .next (s.untaken .field .state k)) ∧
      (∀ p, n < 64 → (s.station n).state = .passage p → p.channel = none →
        exec (.noPassage (whole .field args l)) s = .next (s.taken
          ((s.append (.passageAbandoned .noPassage n (p.holder.map (·.slot)))).setStation n
            { s.station n with state := .ready }) .field .ok k))) ∧
    ∀ n : Fin 64, s.running = true →
      (∀ p d, (s.station n).state = .passage p → p.governor = .window d →
        exec (.passageWindowDeadline n) s = .next (
          let ended := (s.append (.passageAbandoned .timeout n (p.holder.map (·.slot)))).setStation n
            { s.station n with state := .ready }
          match p.channel with
          | some c =>
            if (s.channel c).carried = some n.val then ended.setChannel c { s.channel c with carried := none } else ended
          | none => ended)) ∧
      ((∀ p d, (s.station n).state = .passage p → p.governor ≠ .window d) → exec (.passageWindowDeadline n) s = .next s))

/-! ## Lift cars (chapter 5) -/

/-- R92 to R96: CAR_DECISION on the engine's next work: the stages, the reachable-floor set, and what a DENY and a GRANT leave. -/
def Obligations.CarDecision : Prop :=
  ∀ (s : State) (n : Nat) (r : CarRequest) (who : Option Nat), s.running = true → s.nextCar n r → s.credentialLaw →
    s.requestTenant r.credential who →
    ∃ t reach, exec .carDecision s = .next t ∧ (∀ f, f ∈ reach ↔ s.reachable who f) ∧
      (∀ m, m ≠ n → t.car m = s.car m) ∧
      match s.carDenial r who with
      | some reason =>
        t.car n =
          { state := .idle
            verdict := some
              { outcome := .deny reason, tenant := who, destination := r.floor, reachable := reach, unfetched := true } } ∧
        t = { s.append (.denied reason (.car n) who) with cars := t.cars, lift := s.lift.withdrawFetch n }
      | none =>
        t.car n =
          { state := .trip
              { holder := who.map fun i => { slot := i, enrolment := (s.tenant i).enrolment }
                destination := r.floor
                reservation := if s.control.mode = .fallback then none else who.map fun i =>
                  { slot := i, place := false, claim := if s.presentOn i r.floor = true then none else some r.floor }
                deadline := s.now + s.tripWindow * 1000000 }
            verdict := some
              { outcome := .grant, tenant := who, destination := r.floor, reachable := reach, unfetched := true } } ∧
        t = { s with cars := t.cars, lift := s.lift.withdrawFetch n }

/-- R97, R98, R99: CAR ALIGHT and CAR CANCEL, by their checks, and TRIP_DEADLINE: how each ends a trip. -/
def Obligations.TripsEnd : Prop :=
  ∀ (s : State) (l : Lines) (args : List Byte),
    (s.takes .lift → 1 ≤ args.length →
      let k := args.length + 1
      let n := numberOf (byteAt args 0)
      (4 ≤ n → exec (.carAlight (whole .lift args l)) s = .next (s.untaken .lift .badArgument k) ∧
        exec (.carCancel (whole .lift args l)) s = .next (s.untaken .lift .badArgument k)) ∧
      (n < 4 → (∀ tr, (s.car n).state ≠ .trip tr) →
        exec (.carAlight (whole .lift args l)) s = .next (s.untaken .lift .state k) ∧
        exec (.carCancel (whole .lift args l)) s = .next (s.untaken .lift .state k)) ∧
      ∀ tr, n < 4 → (s.car n).state = .trip tr →
        (∃ t, exec (.carAlight (whole .lift args l)) s =
            .next (s.taken (t.setCar n { s.car n with state := .idle }) .lift .ok k) ∧
          s.completes t .alight tr.holder tr.reservation tr.destination (.car n)
            (.tripDone tr.destination n (tr.holder.map (·.slot)))) ∧
        exec (.carCancel (whole .lift args l)) s =
          .next (s.taken ((s.append (.tripAbandoned .cancel n (tr.holder.map (·.slot)))).setCar n
            { s.car n with state := .idle }) .lift .ok k)) ∧
    ∀ n : Fin 4, s.running = true →
      (∀ tr, (s.car n).state = .trip tr → exec (.tripDeadline n) s =
        .next ((s.append (.tripAbandoned .timeout n (tr.holder.map (·.slot)))).setCar n { s.car n with state := .idle })) ∧
      ((∀ tr, (s.car n).state ≠ .trip tr) → exec (.tripDeadline n) s = .next s)

/-! ## Gate channels and strike drive (chapter 7) -/

/-- R120, R121, R122, R124: EGRESS_REQUEST and GATE PULSE: when a release of the base time is taken, and what it does in each
state. -/
def Obligations.EgressRequestAndGatePulse : Prop :=
  (∀ (s : State) (c : Fin 16), s.running = true →
    exec (.egressRequest c false) s = .next (s.setChannel c { s.channel c with egress := false }) ∧
    ((s.channel c).egress = true → exec (.egressRequest c true) s = .next s) ∧
    ((s.channel c).egress = false →
      exec (.egressRequest c true) s = .next (
        if s.channelMode c = .locked ∨ (s.channel c).state = .unlocked then
          s.setChannel c { s.channel c with egress := true }
        else (s.setChannel c { s.released c s.baseRelease with egress := true }).logged (releaseEvents (s.channel c) c)))) ∧
  ∀ (s : State) (l : Lines) (args : List Byte), s.takes .office → 1 ≤ args.length →
    let k := args.length + 1
    let c := numberOf (byteAt args 0)
    exec (.gatePulse (whole .office args l)) s = .next (
      if 16 ≤ c then s.untaken .office .badArgument k
      else if s.channelMode c = .locked then s.untaken .office .state k
      else if (s.channel c).state = .unlocked then s.untaken .office .ok k
      else s.taken ((s.setChannel c (s.released c s.baseRelease)).logged (releaseEvents (s.channel c) c)) .office .ok k)

/-- R125, R126, R76, R83: GATE_CONTACT_OPEN and GATE_CONTACT_CLOSE: the channel by its state, then the opened mark or the
completion of the passage it carries. An opening of an open gate and a close of a shut one are no change (assumption log 8).
-/
def Obligations.GateContactEvents : Prop :=
  (∀ (s : State) (c : Fin 16), s.running = true →
    let x := s.channel c
    let opened := (s.setChannel c
        { x with
          gateOpen := true
          state := match x.state with
            | .secure => .forced
            | .released => .passing
            | a => a
          heldOpenTimer := if x.state = .released then s.inTime s.heldOpenTime 1000000 else x.heldOpenTimer }).logged
      (if x.state = .secure then [.gateForced c] else [])
    (x.gateOpen = true → exec (.gateContactOpen c) s = .next s) ∧
    (x.gateOpen = false → (∀ n p, x.carried = some n → (s.station n).state ≠ .passage p) →
      exec (.gateContactOpen c) s = .next opened) ∧
    ∀ n p, x.gateOpen = false → x.carried = some n → (s.station n).state = .passage p →
      exec (.gateContactOpen c) s =
        .next (opened.setStation n { s.station n with state := .passage { p with opened := true } })) ∧
  (∀ (s : State) (c : Fin 16), s.running = true →
    let x := s.channel c
    let y : Channel := { x with gateOpen := false }
    let z : Channel :=
      if x.state = .passing ∨ x.state = .propped then
        { y with state := .secure, releaseTimer := none, heldOpenTimer := none, drive := .off, pickTimer := none }
      else if x.state = .forced then { y with state := .secure }
      else y
    let shut := (s.setChannel c z).logged
      (if x.state = .propped then [.gateRestored .propped c] else if x.state = .forced then [.gateRestored .forced c] else [])
    (x.gateOpen = false → exec (.gateContactClose c) s = .next s) ∧
    (x.gateOpen = true → (∀ n p, x.carried = some n → (s.station n).state = .passage p → p.opened = false) →
      exec (.gateContactClose c) s = .next shut) ∧
    ∀ n p, x.gateOpen = true → x.carried = some n → (s.station n).state = .passage p → p.opened = true →
      p.channel = some c.val → (∀ i, (s.tenant i).units.Nodup) →
      ∃ t, shut.completes t (match p.kind with
            | .entry => .entry
            | .exit => .exit
            | .zone => .zone) p.holder p.reservation (p.destination.getD 0) (.station n)
          (match p.kind with
            | .entry => .entry n (p.holder.map (·.slot))
            | .exit => .exit n (p.holder.map (·.slot))
            | .zone => .zonePass (p.destination.getD 0) n (p.holder.map (·.slot))) ∧
        exec (.gateContactClose c) s =
          .next ((t.setStation n { s.station n with state := .ready }).setChannel c { z with carried := none }))

/-- R123, R77, R127, R135: RELEASE_TIMER_EXPIRY (the drive goes off, RELEASED goes to SECURE, and a RELEASE-governed passage
not opened is abandoned NO_OPEN), HELD_OPEN_TIMER_EXPIRY and PICK_TIMER_EXPIRY. An expiry of a timer that is absent is no
event (log 8). -/
def Obligations.ChannelTimersExpire : Prop :=
  (∀ (s : State) (c : Fin 16), s.running = true → s.channelLaw →
    let x := s.channel c
    let z : Channel :=
      { x with
        releaseTimer := none, drive := .off, pickTimer := none
        state := if x.state = .released then .secure else x.state }
    (x.releaseTimer = none → exec (.releaseTimerExpiry c) s = .next s) ∧
    (x.releaseTimer ≠ none →
      (∀ n p, x.carried = some n → (s.station n).state = .passage p → p.governor ≠ .release ∨ p.opened = true) →
      exec (.releaseTimerExpiry c) s = .next (s.setChannel c z)) ∧
    ∀ n p, x.releaseTimer ≠ none → x.carried = some n → (s.station n).state = .passage p → p.governor = .release →
      p.opened = false → p.channel = some c.val →
      exec (.releaseTimerExpiry c) s = .next
        (((s.append (.passageAbandoned .noOpen n (p.holder.map (·.slot)))).setStation n
          { s.station n with state := .ready }).setChannel c { z with carried := none })) ∧
  (∀ (s : State) (c : Fin 16), s.running = true →
    let x := s.channel c
    (x.heldOpenTimer ≠ none → x.state = .passing → exec (.heldOpenTimerExpiry c) s =
      .next ((s.setChannel c { x with heldOpenTimer := none, state := .propped }).append (.gatePropped c))) ∧
    (x.heldOpenTimer = none → exec (.heldOpenTimerExpiry c) s = .next s) ∧
    exec (.pickTimerExpiry c) s = .next (s.setChannel c { x with pickTimer := none }))

/-- R134, R135, R136, R160: of the 256 ticks of a PWM period a HOLD output is on for the first D, a PICK output for all, an OFF
output for none, and none is on while RST is active (that none is on without main power too is the MODEL's: assumption log
11); at PWM_PERIOD_START a buffered duty comes into force and every pick that has run out becomes HOLD. (The step also counts
256 microseconds: assumption log 6.) -/
def Obligations.StrikeOutputsAndPeriodStart : Prop :=
  (∀ (s : State) (c : Nat), s.strike.duty ≤ 255 →
    let on := (List.range 256).countP (s.strikeOutput c)
    (s.running = true →
      ((s.channel c).drive = .hold → on = s.strike.duty ∧ ∀ k < 256, s.strikeOutput c k = decide (k < s.strike.duty)) ∧
      ((s.channel c).drive = .pick → on = 256) ∧ ((s.channel c).drive = .off → on = 0)) ∧
    (s.running = false → on = 0)) ∧
  (∀ s : State, s.running = true → ∃ t, exec .pwmPeriodStart s = .next t ∧
    (∀ c, t.channel c =
      if c < 16 ∧ (s.channel c).drive = .pick ∧ (s.channel c).pickTimer = none then { s.channel c with drive := .hold }
      else s.channel c) ∧
    t = { s with
          channels := t.channels, now := s.now + 256
          strike := { s.strike with duty := s.strike.nextDuty.getD s.strike.duty, nextDuty := none } })

/-- R136, R137, R138: SUPPLY_SAMPLE: the duty computed, saturation and failure, their marks and records; the duty is H times
256 over v rounded half up. -/
def Obligations.SupplySampleAndDuty : Prop :=
  (∀ (s : State) (v : Fin 1024), s.running = true →
    let k := { s.strike with reading := v.val, sampleTimer := s.now + 10000 }
    let h := s.holdVoltage
    let d := (h * 256 + v.val / 2) / v.val
    exec (.supplySample v) s = .next (
      if v.val < 120 then
        ({ s with strike := { k with failMark := true } }).logged
          (if s.strike.failMark then [] else [.supplyFail v.val])
      else
        let ok : List Event := if s.strike.failMark then [.supplyOk v.val] else []
        if h = 0 then
          ({ s with strike := { k with nextDuty := some 255, lowMark := false, failMark := false } }).logged ok
        else if 255 < d then
          ({ s with strike := { k with nextDuty := some 255, lowMark := true, failMark := false } }).logged
            (ok ++ if s.strike.lowMark then [] else [Event.supplyLow v.val])
        else ({ s with strike := { k with nextDuty := some d, lowMark := false, failMark := false } }).logged ok)) ∧
  (∀ h v : Nat, 0 < v →
    2 * (computedDuty h v) * v ≤ 2 * (h * 256) + v ∧ 2 * (h * 256) + v < 2 * (computedDuty h v + 1) * v)

/-! ## Bulk loading (chapter 8) -/

/-- R140, R141, R146: LOAD BEGIN with its clamped count, LOAD DATA for a frame that holds the record of the load in progress,
and LOAD ABORT, each by its checks in order. -/
def Obligations.LoadCommands : Prop :=
  (∀ (s : State) (l : Lines) (args : List Byte), s.takes .office →
    let n := args.length + 1
    let first := wordAt args 1
    let requested := wordAt args 3
    let size := if natAt args 0 = 0 then 2048 else 3072
    (5 ≤ args.length → exec (.loadBegin (whole .office args l)) s = .next (
      if 2 ≤ natAt args 0 ∨ requested = 0 ∨ size ≤ first then s.untaken .office .badArgument n
      else if s.loader.active then s.untaken .office .busy n
      else if s.control.tableFault then s.untaken .office .tableFault n
      else
        let count := min requested (size - first)
        s.taken { s with
          loader :=
            { active := true, kind := if natAt args 0 = 0 then .tenant else .unitFloor, count, nextTarget := first
              committed := 0, skipped := 0, remaining := count, buffer := [] } } .office .ok n)) ∧
    exec (.loadAbort (whole .office args l)) s = .next (
      if s.loader.active then
        s.taken (({ s with loader := { s.loader with active := false, buffer := [] } }).append
          (.loadAborted s.loader.kind s.loader.committed s.loader.skipped)) .office .ok n
      else s.untaken .office .state n)) ∧
  (∀ (s : State) (l : Lines) (args : List Byte), s.takes .office →
    let n := args.length + 1
    let full := s.loader.count ≤ s.loader.buffer.length + s.loader.committed + s.loader.skipped
    let buffered := fun r => exec (.loadData (whole .office args l)) s = .next (
      if full then s.untaken .office .state n
      else if 4 ≤ s.loader.buffer.length then s.untaken .office .full n
      else s.taken { s with loader := { s.loader with buffer := s.loader.buffer ++ [r] } } .office .ok n)
    let refused := fun r => exec (.loadData (whole .office args l)) s = .next (s.untaken .office r n)
    (s.loader.active = false → refused .state) ∧
    (s.loader.active = true → s.loader.kind = .unitFloor → 1 ≤ args.length →
      (16 ≤ natAt args 0 → refused .badArgument) ∧ (natAt args 0 < 16 → buffered (.floor (natAt args 0)))) ∧
    (s.loader.active = true → s.loader.kind = .tenant → 8 + 2 * natAt args 7 ≤ args.length →
      (8 < natAt args 7 ∨ detailsAt args 0 = none → refused .badArgument) ∧
      ∀ d, natAt args 7 ≤ 8 → detailsAt args 0 = some d →
        buffered (.tenant d ((List.range (natAt args 7)).map fun k => wordAt args (8 + 2 * k)))))

/-- R142 to R145, R114: LOADER_EXAMINE on the engine's next work: committed or skipped, the counts, and the end of the load. -/
def Obligations.LoaderExamination : Prop :=
  ∀ (s : State) (key : Bool) (r : LoadRecord) (rest : List LoadRecord), s.running = true → s.nextRecord r rest →
    let i := s.loader.nextTarget
    let finish := fun (t : State) (committed skipped : Nat) =>
      let ended := committed + skipped = s.loader.count
      ({ t with
        loader :=
          { s.loader with
            active := if ended then false else s.loader.active
            buffer := rest, nextTarget := i + 1, remaining := s.loader.remaining - 1, committed, skipped } }).logged
        (if ended then [.loadDone s.loader.kind committed skipped] else [])
    (∀ f, r = .floor f → exec (.loaderExamine key) s = .next (
      if (s.unit i).tenant ≠ none then finish s s.loader.committed (s.loader.skipped + 1)
      else finish (s.setUnit i { s.unit i with floor := f }) (s.loader.committed + 1) s.loader.skipped)) ∧
    ∀ d us, r = .tenant d us →
      let skip := (s.tenant i).state ≠ .free ∨ (i < s.protectedCount ∧ key = false) ∨
        (∃ j < 2048, (s.tenant j).state ≠ .free ∧ (s.tenant j).credential = d.credential) ∨ (∃ u ∈ us, 3072 ≤ u) ∨
        ¬us.Nodup ∨ ∃ u ∈ us, (s.unit u).tenant ≠ none
      (skip → exec (.loaderExamine key) s = .next (finish s s.loader.committed (s.loader.skipped + 1))) ∧
      (¬skip → s.isPresent i = false → ∃ t, exec (.loaderExamine key) s =
          .next (finish t (s.loader.committed + 1) s.loader.skipped) ∧
        t = { s.setTenant i
                { state := .active, enrolment := (s.tenant i).enrolment + 1, role := d.role, credential := d.credential
                  profile := d.profile, extended := d.extended, units := us } with units := t.units } ∧
        ∀ u, t.unit u =
          if u ∈ us then
            { s.unit u with tenant := some i, arm := if (s.unit u).arm.stays then (s.unit u).arm else .armed }
          else s.unit u)

/-! ## Modes, parameters and restarts (chapter 9) -/

/-- R151, R153, R156, R157: FALLBACK ENTER, FALLBACK RELEASE, PARAM OPEN and PARAM CLOSE, by their checks in order;
EDIT_WINDOW_EXPIRY and INTEGRITY_SWEEP. -/
def Obligations.ModeCommandsAndEditWindow : Prop :=
  (∀ (s : State) (l : Lines) (args : List Byte), s.takes .office →
    let n := args.length + 1
    exec (.fallbackEnter (whole .office args l)) s = .next (
      if s.control.mode = .fallback then s.untaken .office .ok n
      else s.taken (({ s with control := { s.control with mode := .fallback } }).append (.mode .command .fallback))
        .office .ok n) ∧
    exec (.fallbackRelease (whole .office args l)) s = .next (
      if s.control.mode = .normal ∨ s.window ≠ none then s.untaken .office .state n
      else if s.control.tableFault then s.untaken .office .tableFault n
      else if (List.range 52).foldl (fun a w => a + s.param w) 0 ≠ 0xFFFFFFFF then s.untaken .office .sumBad n
      else s.taken (({ s with control := { s.control with mode := .normal } }).append (.mode .release .normal))
        .office .ok n)) ∧
  (∀ (s : State) (l : Lines) (args : List Byte),
    (s.takes .office →
      let n := args.length + 1
      exec (.paramOpen (whole .office args l)) s = .next (
        if s.window ≠ none then s.untaken .office .state n
        else s.taken { s with window := s.inTime 60 1000000, sweep := none } .office .ok n) ∧
      exec (.paramClose (whole .office args l)) s = .next (
        if s.window = none then s.untaken .office .state n
        else s.taken (s.closed .close) .office (if s.blockGood then .ok else .sumBad) n)) ∧
    (s.running = true →
      exec .editWindowExpiry s = .next (if s.window = none then s else s.closed .expiry) ∧
      exec .integritySweep s = .next (
        if s.sweep = none then s
        else if s.blockGood = true ∨ s.control.mode = .fallback then { s with sweep := s.inTime 1 100000 }
        else ({ s with sweep := s.inTime 1 100000, control := { s.control with mode := .fallback } }).logged
          [.paramFault .sweep s.blockSum, .mode .sweep .fallback])))

/-- R152, R154: PARAM WRITE, by its checks in order; each field is stored at the nearest end of its range. A write to words 47
to 50 acts on the channels besides (`ModeByteWritesActAtOnce`). -/
def Obligations.ParamWrite : Prop :=
  ∀ (s : State) (l : Lines) (args : List Byte), s.takes .office → 5 ≤ args.length →
    let n := args.length + 1
    let w := natAt args 0
    let v := longAt args 1
    let clampedCount := min 64 (v.toNat / 65536 % 256)
    (52 ≤ w → exec (.paramWrite (whole .office args l)) s = .next (s.untaken .office .badArgument n)) ∧
    (w < 52 → s.window = none → exec (.paramWrite (whole .office args l)) s = .next (s.untaken .office .state n)) ∧
    (w = 0 → s.window ≠ none → l.svckey = false → clampedCount ≠ s.protectedCount →
      exec (.paramWrite (whole .office args l)) s = .next (s.untaken .office .isProtected n)) ∧
    (w < 52 → s.window ≠ none → ¬(w = 0 ∧ l.svckey = false ∧ clampedCount ≠ s.protectedCount) → ∃ t x,
      exec (.paramWrite (whole .office args l)) s = .next (s.taken t .office .ok n) ∧
      (∀ k, t.param k = if k = w then x else s.param k) ∧
      t = { s with params := t.params, channels := t.channels, stations := t.stations, log := t.log } ∧
      (w < 47 ∨ w = 51 → t = { s with params := t.params }) ∧
      (w = 51 ∨ (11 ≤ w ∧ w ≤ 14) → x = v) ∧
      (15 ≤ w → w ≤ 46 → x = v &&& 0x1FF31FF3) ∧ (47 ≤ w → w ≤ 50 → x = v &&& 0x07070707) ∧
      (w = 0 → x.toNat = min 120 (v.toNat % 256) + 256 * min 2 (v.toNat / 256 % 256) + 65536 * clampedCount +
        16777216 * max 1 (min 4 (v.toNat / 16777216))) ∧
      (1 ≤ w → w ≤ 7 → x.toNat = min 1440 (v.toNat % 65536) +
        65536 * max (min 1440 (v.toNat % 65536)) (min 1440 (v.toNat / 65536))) ∧
      (w = 8 → x.toNat = max 10 (min 250 (v.toNat % 65536)) + 65536 * max 5 (min 120 (v.toNat / 65536))) ∧
      (w = 9 → x.toNat = max 30 (min 600 (v.toNat % 65536)) + 65536 * max 5 (min 600 (v.toNat / 65536))) ∧
      (w = 10 → x.toNat = max 5 (min 100 (v.toNat % 65536)) + 65536 * min 1000 (v.toNat / 65536)))

/-- R128 to R130, R79: a PARAM WRITE of words 47 to 50: each channel whose mode byte changes acts at once, one that enters
UNLOCKED from FORCED or PROPPED appends GATE_RESTORED, and a passage it carries becomes WINDOW-governed where the channel
enters UNLOCKED or its mode becomes LOCKED; every other channel and station is kept. (The order of several channels' records
is the MODEL's: assumption log 12.) -/
def Obligations.ModeByteWritesActAtOnce : Prop :=
  ∀ (s : State) (l : Lines) (args : List Byte), s.takes .office → 5 ≤ args.length → 47 ≤ natAt args 0 → natAt args 0 ≤ 50 →
    s.window ≠ none → ∃ t, exec (.paramWrite (whole .office args l)) s = .next (s.taken t .office .ok (args.length + 1)) ∧
      let s1 : State := { s with params := t.params }
      let changed := fun c => c / 4 == natAt args 0 - 47 && s1.modeByte c != s.modeByte c
      (∀ c, changed c = false → t.channel c = s.channel c) ∧
      (∀ c, changed c = true →
        let x := s.channel c
        let off : Channel := { x with drive := .off, pickTimer := none }
        let enters := s1.unlockedCondition c = true ∧ x.state ≠ .unlocked
        let locks := s1.unlockedCondition c = false ∧ x.state ≠ .unlocked ∧ s1.channelMode c = .locked
        t.channel c = (
          if enters then s.driven { x with state := .unlocked, releaseTimer := none, heldOpenTimer := none }
          else if locks then { off with releaseTimer := none, state := if x.state = .released then .secure else x.state }
          else if x.state = .unlocked ∧ s1.unlockedCondition c = false then
            if x.gateOpen then { off with state := .passing, heldOpenTimer := s.inTime s.heldOpenTime 1000000 }
            else { off with state := .secure }
          else x)) ∧
      (∀ n, t.station n = s.handedWindow (fun c => changed c && (s.enters s1 c || s.locks s1 c)) n) ∧
      t.log = (s.logged (s.restoredEvents s1 changed)).log ∧
      t = { s with params := t.params, channels := t.channels, stations := t.stations, log := t.log }

/-- R158, R85, R100, R131, R159, R129: FIRE_INPUT_ACTIVE and FIRE_INPUT_INACTIVE (at the latch's setting every trip, then
every passage, is abandoned FIRE, and every channel that is not fire-secure becomes UNLOCKED), and FIRE CLEAR. (That the
channels' GATE_RESTORED records follow the abandonments, in rising order, is the MODEL's: assumption log 12; R131 allows
either order of the two.) -/
def Obligations.FireInputAndFireClear : Prop :=
  (∀ s : State, s.running = true →
    exec .fireInputInactive s = .next (
      if s.control.fireLive then ({ s with control := { s.control with fireLive := false } }).append .fireOff else s) ∧
    (s.control.fireLive = true → exec .fireInputActive s = .next s) ∧
    (s.control.fireLive = false → s.control.fireLatch = true →
      exec .fireInputActive s = .next (({ s with control := { s.control with fireLive := true } }).append .fireOn)) ∧
    (s.control.fireLive = false → s.control.fireLatch = false → s.carriedLaw → s.channelLaw → ∃ t,
      exec .fireInputActive s = .next t ∧
      t.log = (s.logged (.fireOn ::
        (List.range 4).filterMap (fun n => match (s.car n).state with
          | .trip tr => some (.tripAbandoned .fire n (tr.holder.map (·.slot)))
          | _ => none) ++
        (List.range 64).filterMap (fun n => match (s.station n).state with
          | .passage p => some (.passageAbandoned .fire n (p.holder.map (·.slot)))
          | _ => none) ++
        s.restoredEvents { s with control := { s.control with fireLatch := true } } (fun c => !s.fireSecure c))).log ∧
      (∀ n < 4, t.car n = match (s.car n).state with
        | .trip _ => { s.car n with state := .idle }
        | _ => s.car n) ∧
      (∀ n < 64, t.station n = match (s.station n).state with
        | .passage _ => { s.station n with state := .ready }
        | _ => s.station n) ∧
      (∀ c < 16, t.channel c =
        { (if s.fireSecure c = false ∧ (s.channel c).state ≠ .unlocked then
            s.driven { s.channel c with state := .unlocked, releaseTimer := none, heldOpenTimer := none }
          else s.channel c) with carried := none }) ∧
      t = { s with cars := t.cars, stations := t.stations, channels := t.channels, log := t.log
                   control := { s.control with fireLive := true, fireLatch := true } })) ∧
  (∀ (s : State) (l : Lines) (args : List Byte), s.takes .office →
    let n := args.length + 1
    let cleared : State := { s with control := { s.control with fireLatch := false } }
    (s.control.fireLive = true ∨ s.control.fireLatch = false →
      exec (.fireClear (whole .office args l)) s = .next (s.untaken .office .state n)) ∧
    (s.control.fireLive = false → s.control.fireLatch = true → ∃ t,
      exec (.fireClear (whole .office args l)) s = .next (s.taken t .office .ok n) ∧
      t = { cleared.append .fireCleared with channels := t.channels } ∧
      ∀ c < 16, t.channel c =
        let x := s.channel c
        if x.state = .unlocked ∧ cleared.unlockedCondition c = false then
          let off : Channel := { x with drive := .off, pickTimer := none }
          if x.gateOpen then { off with state := .passing, heldOpenTimer := s.inTime s.heldOpenTime 1000000 }
          else { off with state := .secure }
        else x))

/-- R163: READ STATE on each port. (The remaining window time is of the MODEL's clock: assumption log 6.) -/
def Obligations.ReadState : Prop :=
  ∀ (s : State) (p : Port) (l : Lines) (args : List Byte), s.takes p → ∃ flags loads : Byte,
    exec (.readState (whole p args l)) s = .next (s.close p .ok (s.reply p
      ([flags, byteOf s.control.resetCause.code] ++
        (match s.window with
          | none => [0xFF, 0xFF]
          | some e => wordBytes ((e - s.now + 999999) / 1000000)) ++
        wordBytes s.clock.minute ++
        [byteOf s.clock.seconds, byteOf s.clock.phase.code,
          match s.clock.phase with
          | .closing g => byteOf g
          | _ => 0xFF] ++
        wordBytes s.log.records.length ++ [loads] ++ wordBytes s.loader.count ++ wordBytes s.loader.nextTarget ++
        wordBytes s.loader.committed ++ wordBytes s.loader.skipped ++ wordBytes s.loader.remaining ++
        wordBytes s.strike.reading ++ [byteOf s.strike.duty]) (args.length + 1))) ∧
    (flags.getLsbD 7 = (s.control.mode == .fallback) ∧ flags.getLsbD 6 = s.control.fireLatch ∧
      flags.getLsbD 5 = s.control.fireLive ∧ flags.getLsbD 4 = s.control.tableFault ∧
      flags.getLsbD 3 = s.window.isSome ∧ flags.toNat % 8 = 0) ∧
    (s.loader.buffer.length ≤ 4 → loads.toNat =
      (if s.loader.active then 128 else 0) + 16 * s.loader.buffer.length + if s.loader.kind = .tenant then 0 else 1)

/-- R164, R165, R167: one append (the next number, the minute, and when the log is full the oldest discarded and the gap mark
set); LOG READ (the oldest records, ten FF bytes beyond them, and the removal of those shifted out whole). In a frame of
several events (the MODEL's: assumption log 3) the records sampled are shifted out at the end, and those shifted out whole are
removed where they are still held: whatever has been appended since the sampling (`es`, each with its minute), what stands after
is the records of the sampling followed by the new ones, without those discarded and without those shifted out whole. (The count
of discards is the MODEL's: assumption log 20.) -/
def Obligations.LogAppendAndRead : Prop :=
  (∀ (s : State) (e : Event),
    s.append e = { s with log :=
      { next := s.log.next + 1
        records := (if 512 ≤ s.log.records.length then s.log.records.tail else s.log.records) ++
          [{ seq := s.log.next, minute := s.clock.minute, gap := decide (512 ≤ s.log.records.length), event := e }]
        discards := s.log.discards + if 512 ≤ s.log.records.length then 1 else 0 } }) ∧
  (∀ (s : State) (l : Lines) (args : List Byte), s.takes .office → 1 ≤ args.length →
    let k := args.length + 1
    let n := natAt args 0
    exec (.logRead (whole .office args l)) s = .next (
      if n = 0 ∨ 16 < n then s.untaken .office .badArgument k
      else
        let data := (List.range n).flatMap fun j =>
          match s.log.records[j]? with
          | some r => wordBytes r.seq.toNat ++ wordBytes (r.minute + if r.gap then 32768 else 0) ++
              [byteOf r.event.kindCode, byteOf r.event.detail] ++ wordBytes r.event.subject ++ wordBytes r.event.value
          | none => List.replicate 10 0xFF
        ({ s with log := { s.log with records := s.log.records.drop (min n ((k - 2) / 10)) } }).close .office .ok
          (s.reply .office data k))) ∧
  (∀ (s : State) (l : Lines) (args more : List Byte) (st : Byte) (m : Sample), 1 ≤ args.length →
    let k := args.length + more.length + 1
    (sampleOf .logRead args s).records = (if natAt args 0 = 0 ∨ 16 < natAt args 0 then [] else s.log.records.take (natAt args 0)) ∧
    (s.takes .office → s.office.assembly = some { wire := commandCode .logRead :: args, status := st, sample := some m } →
      exec (.logRead { port := .office, bytes := more, part := .closing, lines := l }) s = .next (
        (if m.result = .ok then
          let left := s.log.records.drop (min ((k - 2) / 10) m.records.length - (s.log.discards - m.discards))
          { s with log := { s.log with records := left } }
        else s).close .office m.result
          ((st :: byteOf s.office.lastResult.code :: (m.data ++ List.replicate k 0xFF)).take k)))) ∧
  (∀ (s t : State) (l : Lines) (args more : List Byte) (st : Byte) (es : List (Nat × Event)), 1 ≤ args.length →
    1 ≤ natAt args 0 → natAt args 0 ≤ 16 → t.log = es.foldl (fun g e => g.append e.1 e.2) s.log → t.takes .office →
    t.office.assembly =
      some { wire := commandCode .logRead :: args, status := st, sample := some (sampleOf .logRead args s) } →
    ∃ new : List EventRecord, new.map (fun r => (r.minute, r.event)) = es ∧
      let gone := t.log.discards - s.log.discards
      let read := min ((args.length + more.length - 1) / 10) (s.log.records.take (natAt args 0)).length
      (s.log.records.length ≤ 512 → gone = s.log.records.length + es.length - 512) ∧
      t.log.records = (s.log.records ++ new).drop gone ∧
      ∃ u, exec (.logRead { port := .office, bytes := more, part := .closing, lines := l }) t = .next u ∧
        u.log.next = t.log.next ∧ u.log.records = (s.log.records ++ new).drop (max gone read))

/-- R160, R2, R6, R8, R11, R24, R28, R40, R62, R89, R104, R136, R139, R148, R152, R153, R157, R162, R171: what every kind of
reset sets, for each of the four that complete (COLD_RESET, RETENTION_RESET, PIN_RESET, DEVICE_RESET); what a COLD reset clears
and the others keep. -/
def Obligations.ResetsSetClearAndKeep : Prop :=
  (∀ (s : State) (l : Lines) (b : Bool) (args : List Byte),
    let reset := fun (cause : ResetCause) (t : State) =>
      (∀ p, (t.port p).lastResult = .ok ∧ (t.port p).repeating = false ∧ (t.port p).assembly = none) ∧ t.cursor = none ∧
        (∀ n, t.station n = { state := .offline, verdict := none }) ∧ (∀ n, t.car n = { state := .idle, verdict := none }) ∧
        t.reservations = [] ∧
        t.strike = { reading := 0, duty := 255, nextDuty := none, lowMark := false, failMark := false,
                     sampleTimer := t.now + 10000 } ∧
        t.loader.active = false ∧ t.loader.buffer = [] ∧ t.window = none ∧ t.sweep = some (t.now + 100000) ∧
        t.control.resetCause = cause ∧ t.pending = s.pending
    (∃ t, exec (.coldReset l b) s = .next t ∧ reset .cold t ∧ t.power.main = true) ∧
    (s.power.retention = true → ∃ t, exec (.retentionReset l b) s = .next t ∧ reset .retention t ∧ t.power.main = true) ∧
    (s.power.retention = false → exec (.retentionReset l b) s = exec (.coldReset l b) s) ∧
    (s.power.main = true → ∃ t, exec (.pinReset l) s = .next t ∧ reset .pin t ∧ t.power.rst = false) ∧
    (s.takes .office → ∃ t, exec (.deviceReset (whole .office args l)) s = .next t ∧ reset .command t)) ∧
  (∀ (s t : State) (l : Lines) (b : Bool) (args : List Byte),
    (exec (.coldReset l b) s = .next t →
      (∀ i, t.tenant i = { state := .free, enrolment := 0, role := .tenant, credential := .card 0, profile := 0,
                           extended := false, units := [] }) ∧
      (∀ u, t.unit u = { floor := 0, tenant := none, arm := .vacant, contact := .unknown, visit := false }) ∧
      (∀ i, t.profile i = { kind := .anytime, windows := [⟨0, 0⟩, ⟨0, 0⟩, ⟨0, 0⟩, ⟨0, 0⟩] }) ∧
      t.roster = [] ∧ (∀ w, t.param w = 0) ∧ t.clock = { minute := 0, seconds := 0, phase := .closed } ∧
      t.loader = { active := false, kind := .tenant, count := 0, nextTarget := 0, committed := 0, skipped := 0,
                   remaining := 0, buffer := [] }) ∧
    ((exec (.retentionReset l b) s = .next t ∧ s.power.retention = true) ∨
        (exec (.pinReset l) s = .next t) ∨
        (exec (.deviceReset (whole .office args l)) s = .next t ∧ s.takes .office) →
      t.tenants = s.tenants ∧ t.units = s.units ∧ t.profiles = s.profiles ∧ t.roster = s.roster ∧ t.params = s.params ∧
        t.clock = s.clock ∧
        { t.loader with active := false, buffer := [] } = { s.loader with active := false, buffer := [] }))

/-- R161, R162, R118: the restart rule: table fault, mode, the RESET and FIRE_ON records, the fire level and latch, the
channels' placement and their GATE_FORCED records. (That these stand in rising order of the channels is the MODEL's:
assumption log 12; the line levels and the check's outcome are operands: logs 4 and 14; the count of discards is the MODEL's: log
20.) -/
def Obligations.RestartRule : Prop :=
  ∀ (s : State) (l : Lines) (b : Bool),
    let restart := fun (cause : ResetCause) (t : State) (latch fault : Bool) (before : Log) =>
      t.control =
          { mode := if fault = false ∧ t.blockGood = true then .normal else .fallback
            fireLive := l.fire, fireLatch := latch || l.fire, tableFault := fault, resetCause := cause } ∧
        t.log = (({ t with log := before }).logged (Event.reset cause t.control.mode fault ::
          (if l.fire then [Event.fireOn] else []) ++
          ((List.range 16).filter fun c => l.gate.getLsbD c && !t.unlockedCondition c).map fun c => Event.gateForced c)).log ∧
        ∀ c < 16, t.channel c =
          { state := if t.unlockedCondition c then .unlocked else if l.gate.getLsbD c then .forced else .secure
            gateOpen := l.gate.getLsbD c, egress := l.egress.getLsbD c, carried := none, releaseTimer := none
            heldOpenTimer := none
            drive := if t.unlockedCondition c then .pick else .off
            pickTimer := if t.unlockedCondition c then t.inTime t.pickTime 10000 else none }
    (∀ t, exec (.coldReset l b) s = .next t → restart .cold t false (!b) { records := [], next := 0, discards := 0 }) ∧
    (∀ t, s.power.retention = true → exec (.retentionReset l b) s = .next t →
      restart .retention t s.control.fireLatch (s.control.tableFault || !b) s.log) ∧
    (∀ t, s.power.main = true → exec (.pinReset l) s = .next t →
      restart .pin t s.control.fireLatch s.control.tableFault s.log) ∧
    (∀ t args, s.takes .office → exec (.deviceReset (whole .office args l)) s = .next t →
      restart .command t s.control.fireLatch s.control.tableFault s.log)

/-- R160: RST_ASSERT, MAIN_POWER_LOSS and VBAT_BELOW_HOLDING_LEVEL, and PIN_RESET while main power is absent (power events
that contradict the power state are taken as assumption log 11 says); while RST is active nothing but the ticks, RST, the power
events and the resets changes the part (that it is so without main power too is the MODEL's: assumption log 11). -/
def Obligations.PowerAndRst : Prop :=
  (∀ (s : State) (l : Lines),
    exec .rstAssert s = .next { s with power := { s.power with rst := true } } ∧
    (s.power.main = false → exec (.pinReset l) s = .next { s with power := { s.power with rst := false } }) ∧
    exec .mainPowerLoss s =
      .next (if s.power.main then { s with power := { s.power with main := false, retention := true } } else s) ∧
    exec .vbatBelowHoldingLevel s =
      .next (if s.power.main then s else { s with power := { s.power with retention := false } })) ∧
  (∀ (s : State) (i : Instr), s.running = false → reachesHeld i = false → exec i s = .next s)

/-! ## What every step keeps -/

/-- R3, R7, R1, R143: no two slots in use hold one credential; with the buffered records at most 8 units each, both sides of
every pairing agree after every event. -/
def Obligations.RightsTablesKeepTheirLaws : Prop :=
  (∀ (i : Instr) (s t : State), s.credentialLaw → exec i s = .next t → t.credentialLaw) ∧
  (∀ (i : Instr) (s t : State), s.pairingLaw ∧ s.freeLaw ∧ s.bufferLaw → exec i s = .next t →
    t.pairingLaw ∧ t.freeLaw ∧ t.bufferLaw)

/-- R110, R104, R42: DISARMED units and visit marks have a present tenant, and a present tenant's slot is not FREE. -/
def Obligations.DisarmedOnlyWhilePresent : Prop :=
  ∀ (i : Instr) (s t : State), s.pairingLaw ∧ s.freeLaw ∧ s.bufferLaw ∧ s.armingLaw ∧ s.presentLaw → exec i s = .next t →
    t.armingLaw ∧ t.presentLaw

/-- R41, R43, R45, R49, R53, R54: one presence record per slot, records and reserved places within the capacity; at most one
reservation per tenant slot; every closing countdown equals the site grace counter, so that all run out at the tick of CLOSED.
-/
def Obligations.RosterKeepsItsLaws : Prop :=
  (∀ (i : Instr) (s t : State), s.rosterLaw → exec i s = .next t → t.rosterLaw) ∧
  (∀ (i : Instr) (s t : State), s.reservationLaw → exec i s = .next t → t.reservationLaw) ∧
  (∀ (i : Instr) (s t : State), s.countdownLaw ∧ s.clockLaw → exec i s = .next t → t.countdownLaw ∧ t.clockLaw)

/-- R119, R128, R129: a channel is UNLOCKED exactly while its unlocked condition holds. 7.2: a channel of mode LOCKED drives
its strike only while the fire latch is set and the channel is not fire-secure. -/
def Obligations.UnlockedExactlyInTheUnlockedCondition : Prop :=
  (∀ (i : Instr) (s t : State), s.unlockedLaw → exec i s = .next t → t.unlockedLaw) ∧
  (∀ (i : Instr) (s t : State), s.lockedLaw → exec i s = .next t → t.lockedLaw)

/-- R118, R121 to R130, R132, R135: contact, drive and timers fit the channel's state; the passage a channel carries is in
flight and names that channel, where no channel but 0 to 15 carries one or is named by a waiting request. R136: the duty in
force changes only at a reset, to 255, and at a period start, to the duty in the buffer, which only a sample of 6.0 V or more
fills, with the duty computed from it. -/
def Obligations.ChannelsKeepTheirLaws : Prop :=
  (∀ (i : Instr) (s t : State), s.channelLaw → exec i s = .next t → t.channelLaw) ∧
  (∀ (i : Instr) (s t : State), s.carriedLaw ∧ s.rangeLaw → exec i s = .next t → t.carriedLaw ∧ t.rangeLaw) ∧
  (∀ (i : Instr) (s t : State), exec i s = .next t →
    (t.strike.duty = s.strike.duty ∧ t.strike.nextDuty = s.strike.nextDuty) ∨
    (t.strike.duty = 255 ∧ t.strike.nextDuty = none ∧ t.strike.reading = 0 ∧ t.window = none ∧ t.cursor = none) ∨
    (i = .pwmPeriodStart ∧ t.strike.duty = s.strike.nextDuty.getD s.strike.duty ∧ t.strike.nextDuty = none) ∨
    ∃ v : Fin 1024, i = .supplySample v ∧ 120 ≤ v.val ∧ t.strike.duty = s.strike.duty ∧
      t.strike.nextDuty = some (if s.holdVoltage = 0 then 255 else min 255 ((s.holdVoltage * 256 + v.val / 2) / v.val)))

/-- R139, R165, R156, R153, R157: the counts of a load add up; the log keeps its bound and its order; while the mode is NORMAL
and the edit window CLOSED the block sums to FFFFFFFF, and the sweep runs exactly while the window is CLOSED. -/
def Obligations.LoaderLogAndBlockKeepTheirLaws : Prop :=
  (∀ (i : Instr) (s t : State), s.loaderLaw → exec i s = .next t → t.loaderLaw) ∧
  (∀ (i : Instr) (s t : State), s.logLaw → exec i s = .next t → t.logLaw) ∧
  (∀ (i : Instr) (s t : State), s.paramLaw ∧ s.sweepLaw → exec i s = .next t → t.paramLaw ∧ t.sweepLaw)

/-- The MODEL's collections keep their canonical form (assumption log 17); OFFICE never enters repeat mode (R171). -/
def Obligations.CollectionsStayCanonical : Prop :=
  ∀ (i : Instr) (s t : State), s.canonical ∧ s.portLaw → exec i s = .next t → t.canonical ∧ t.portLaw

/-- The laws hold right after reset. -/
def Obligations.LawsHoldAtReset : Prop :=
  let s := State.reset
  s.credentialLaw ∧ s.pairingLaw ∧ s.freeLaw ∧ s.bufferLaw ∧ s.armingLaw ∧ s.presentLaw ∧ s.rosterLaw ∧ s.reservationLaw ∧
    s.countdownLaw ∧ s.clockLaw ∧ s.unlockedLaw ∧ s.lockedLaw ∧ s.channelLaw ∧ s.carriedLaw ∧ s.rangeLaw ∧ s.loaderLaw ∧
    s.paramLaw ∧ s.sweepLaw ∧ s.logLaw ∧ s.canonical ∧ s.portLaw

/-! ## What no event does -/

/-- R9: while SVCKEY is inactive, no event but a COLD reset changes a protected tenant slot or the protected count. -/
def Obligations.ProtectedSlotsNeedTheKey : Prop :=
  ∀ (i : Instr) (s t : State), keyActive i = false → makesCold i s = false → exec i s = .next t →
    t.protectedCount = s.protectedCount ∧ ∀ slot < s.protectedCount, t.tenant slot = s.tenant slot

/-- R4: outside a COLD reset an enrolment changes exactly when its slot leaves FREE, and then by one, modulo 256. -/
def Obligations.EnrolmentCountsDeparturesFromFree : Prop :=
  ∀ (i : Instr) (s t : State) (slot : Nat), makesCold i s = false → exec i s = .next t →
    (t.tenant slot).enrolment =
      if (s.tenant slot).state = .free ∧ (t.tenant slot).state ≠ .free then (s.tenant slot).enrolment + 1
      else (s.tenant slot).enrolment

/-- R68, R46: the law of the decision engine, and that of floor occupancy, over every event: a passage or trip that newly
stands was granted as the law allows, and no grant makes a floor's occupancy exceed the floor's limit where there is one. -/
def Obligations.GrantsObeyTheEngineLaw : Prop :=
  ∀ (i : Instr) (s t : State), exec i s = .next t →
    let kept := ∀ f, s.floorLimit f ≠ 0 → t.occupancy f ≤ max (s.occupancy f) (s.floorLimit f)
    (∀ n p, (t.station n).state = .passage p → (∀ q, (s.station n).state ≠ .passage q) →
      (p.kind = .entry ∨ p.kind = .zone → s.control.mode = .normal ∧ s.control.fireLatch = false) ∧
      (p.kind = .entry → ∃ h, p.holder = some h ∧ (s.tenant h.slot).state ≠ .overlocked ∧
        (s.tenant h.slot).state ≠ .suspended) ∧ kept) ∧
    ∀ n tr, (t.car n).state = .trip tr → (∀ q, (s.car n).state ≠ .trip q) →
      s.control.fireLatch = false ∧ (s.control.mode = .fallback → tr.destination = 0) ∧ kept

/-- R158, R159, R161: while the FIRE input is ACTIVE only a COLD reset clears the fire latch; a set table fault is cleared
only by a COLD reset whose table memory check passes. -/
def Obligations.LatchAndTableFaultHold : Prop :=
  (∀ (i : Instr) (s t : State), s.control.fireLive = true → s.control.fireLatch = true → makesCold i s = false →
    exec i s = .next t → t.control.fireLatch = true) ∧
  (∀ (i : Instr) (s t : State), s.control.tableFault = true → exec i s = .next t → t.control.tableFault = false →
    ∃ l, i = .coldReset l true ∨ (i = .retentionReset l true ∧ s.power.retention = false))

/-- R170, R171, R10 and the convention on refusal (00_scope): a command whose result is not OK, PARAM CLOSE's SUM_BAD apart
(R156), changes nothing but its port's record, in any frame that is whole. -/
def Obligations.RefusedCommandsChangeNothing : Prop :=
  ∀ (s t : State) (c : Command) (p : Port) (l : Lines) (args : List Byte), s.running = true →
    exec (frameInstr c (whole p args l)) s = .next t → (t.port p).lastResult ≠ .ok →
    (c = .paramClose → (t.port p).lastResult ≠ .sumBad) →
    ∃ out k, t = { s.close p (t.port p).lastResult out with fills := k }

end
end

