-- ==== Sys2Proof/Laws/State.lean ====
section
/-! SUPPORT. One lemma per field and per record for each update of the state: what the update sets and what it leaves. -/

namespace Sys2Proof.Machine

variable (s : State)

/-! ### setTenant -/

section
variable (i : Nat) (r : TenantRecord)
@[simp] theorem State.setTenant_office : (s.setTenant i r).office = s.office := rfl
@[simp] theorem State.setTenant_lift : (s.setTenant i r).lift = s.lift := rfl
@[simp] theorem State.setTenant_field : (s.setTenant i r).field = s.field := rfl
@[simp] theorem State.setTenant_cursor : (s.setTenant i r).cursor = s.cursor := rfl
@[simp] theorem State.setTenant_tenants : (s.setTenant i r).tenants = Table.set TenantRecord.cold s.tenants i r := rfl
@[simp] theorem State.setTenant_units : (s.setTenant i r).units = s.units := rfl
@[simp] theorem State.setTenant_profiles : (s.setTenant i r).profiles = s.profiles := rfl
@[simp] theorem State.setTenant_clock : (s.setTenant i r).clock = s.clock := rfl
@[simp] theorem State.setTenant_roster : (s.setTenant i r).roster = s.roster := rfl
@[simp] theorem State.setTenant_stations : (s.setTenant i r).stations = s.stations := rfl
@[simp] theorem State.setTenant_cars : (s.setTenant i r).cars = s.cars := rfl
@[simp] theorem State.setTenant_channels : (s.setTenant i r).channels = s.channels := rfl
@[simp] theorem State.setTenant_strike : (s.setTenant i r).strike = s.strike := rfl
@[simp] theorem State.setTenant_loader : (s.setTenant i r).loader = s.loader := rfl
@[simp] theorem State.setTenant_params : (s.setTenant i r).params = s.params := rfl
@[simp] theorem State.setTenant_window : (s.setTenant i r).window = s.window := rfl
@[simp] theorem State.setTenant_sweep : (s.setTenant i r).sweep = s.sweep := rfl
@[simp] theorem State.setTenant_control : (s.setTenant i r).control = s.control := rfl
@[simp] theorem State.setTenant_power : (s.setTenant i r).power = s.power := rfl
@[simp] theorem State.setTenant_log : (s.setTenant i r).log = s.log := rfl
@[simp] theorem State.setTenant_now : (s.setTenant i r).now = s.now := rfl
@[simp] theorem State.setTenant_fills : (s.setTenant i r).fills = s.fills := rfl
@[simp] theorem State.setTenant_pending : (s.setTenant i r).pending = s.pending := rfl
@[simp] theorem State.setTenant_unit (k : Nat) : (s.setTenant i r).unit k = s.unit k := rfl
@[simp] theorem State.setTenant_profile (k : Nat) : (s.setTenant i r).profile k = s.profile k := rfl
@[simp] theorem State.setTenant_station (k : Nat) : (s.setTenant i r).station k = s.station k := rfl
@[simp] theorem State.setTenant_car (k : Nat) : (s.setTenant i r).car k = s.car k := rfl
@[simp] theorem State.setTenant_channel (k : Nat) : (s.setTenant i r).channel k = s.channel k := rfl
@[simp] theorem State.setTenant_param (k : Nat) : (s.setTenant i r).param k = s.param k := rfl
@[simp] theorem State.setTenant_running : (s.setTenant i r).running = s.running := rfl
@[simp] theorem State.setTenant_port (p : Port) : (s.setTenant i r).port p = s.port p := by cases p <;> rfl
@[simp] theorem State.setTenant_presence (k : Nat) : (s.setTenant i r).presence k = s.presence k := rfl
@[simp] theorem State.setTenant_isPresent (k : Nat) : (s.setTenant i r).isPresent k = s.isPresent k := rfl
end

/-! ### setUnit -/

section
variable (u : Nat) (r : UnitRecord)
@[simp] theorem State.setUnit_office : (s.setUnit u r).office = s.office := rfl
@[simp] theorem State.setUnit_lift : (s.setUnit u r).lift = s.lift := rfl
@[simp] theorem State.setUnit_field : (s.setUnit u r).field = s.field := rfl
@[simp] theorem State.setUnit_cursor : (s.setUnit u r).cursor = s.cursor := rfl
@[simp] theorem State.setUnit_tenants : (s.setUnit u r).tenants = s.tenants := rfl
@[simp] theorem State.setUnit_units : (s.setUnit u r).units = Table.set UnitRecord.cold s.units u r := rfl
@[simp] theorem State.setUnit_profiles : (s.setUnit u r).profiles = s.profiles := rfl
@[simp] theorem State.setUnit_clock : (s.setUnit u r).clock = s.clock := rfl
@[simp] theorem State.setUnit_roster : (s.setUnit u r).roster = s.roster := rfl
@[simp] theorem State.setUnit_stations : (s.setUnit u r).stations = s.stations := rfl
@[simp] theorem State.setUnit_cars : (s.setUnit u r).cars = s.cars := rfl
@[simp] theorem State.setUnit_channels : (s.setUnit u r).channels = s.channels := rfl
@[simp] theorem State.setUnit_strike : (s.setUnit u r).strike = s.strike := rfl
@[simp] theorem State.setUnit_loader : (s.setUnit u r).loader = s.loader := rfl
@[simp] theorem State.setUnit_params : (s.setUnit u r).params = s.params := rfl
@[simp] theorem State.setUnit_window : (s.setUnit u r).window = s.window := rfl
@[simp] theorem State.setUnit_sweep : (s.setUnit u r).sweep = s.sweep := rfl
@[simp] theorem State.setUnit_control : (s.setUnit u r).control = s.control := rfl
@[simp] theorem State.setUnit_power : (s.setUnit u r).power = s.power := rfl
@[simp] theorem State.setUnit_log : (s.setUnit u r).log = s.log := rfl
@[simp] theorem State.setUnit_now : (s.setUnit u r).now = s.now := rfl
@[simp] theorem State.setUnit_fills : (s.setUnit u r).fills = s.fills := rfl
@[simp] theorem State.setUnit_pending : (s.setUnit u r).pending = s.pending := rfl
@[simp] theorem State.setUnit_tenant (k : Nat) : (s.setUnit u r).tenant k = s.tenant k := rfl
@[simp] theorem State.setUnit_profile (k : Nat) : (s.setUnit u r).profile k = s.profile k := rfl
@[simp] theorem State.setUnit_station (k : Nat) : (s.setUnit u r).station k = s.station k := rfl
@[simp] theorem State.setUnit_car (k : Nat) : (s.setUnit u r).car k = s.car k := rfl
@[simp] theorem State.setUnit_channel (k : Nat) : (s.setUnit u r).channel k = s.channel k := rfl
@[simp] theorem State.setUnit_param (k : Nat) : (s.setUnit u r).param k = s.param k := rfl
@[simp] theorem State.setUnit_running : (s.setUnit u r).running = s.running := rfl
@[simp] theorem State.setUnit_port (p : Port) : (s.setUnit u r).port p = s.port p := by cases p <;> rfl
@[simp] theorem State.setUnit_presence (k : Nat) : (s.setUnit u r).presence k = s.presence k := rfl
@[simp] theorem State.setUnit_isPresent (k : Nat) : (s.setUnit u r).isPresent k = s.isPresent k := rfl
end

/-! ### setProfile -/

section
variable (i : Nat) (r : ProfileRecord)
@[simp] theorem State.setProfile_office : (s.setProfile i r).office = s.office := rfl
@[simp] theorem State.setProfile_lift : (s.setProfile i r).lift = s.lift := rfl
@[simp] theorem State.setProfile_field : (s.setProfile i r).field = s.field := rfl
@[simp] theorem State.setProfile_cursor : (s.setProfile i r).cursor = s.cursor := rfl
@[simp] theorem State.setProfile_tenants : (s.setProfile i r).tenants = s.tenants := rfl
@[simp] theorem State.setProfile_units : (s.setProfile i r).units = s.units := rfl
@[simp] theorem State.setProfile_profiles : (s.setProfile i r).profiles = Table.set ProfileRecord.cold s.profiles i r := rfl
@[simp] theorem State.setProfile_clock : (s.setProfile i r).clock = s.clock := rfl
@[simp] theorem State.setProfile_roster : (s.setProfile i r).roster = s.roster := rfl
@[simp] theorem State.setProfile_stations : (s.setProfile i r).stations = s.stations := rfl
@[simp] theorem State.setProfile_cars : (s.setProfile i r).cars = s.cars := rfl
@[simp] theorem State.setProfile_channels : (s.setProfile i r).channels = s.channels := rfl
@[simp] theorem State.setProfile_strike : (s.setProfile i r).strike = s.strike := rfl
@[simp] theorem State.setProfile_loader : (s.setProfile i r).loader = s.loader := rfl
@[simp] theorem State.setProfile_params : (s.setProfile i r).params = s.params := rfl
@[simp] theorem State.setProfile_window : (s.setProfile i r).window = s.window := rfl
@[simp] theorem State.setProfile_sweep : (s.setProfile i r).sweep = s.sweep := rfl
@[simp] theorem State.setProfile_control : (s.setProfile i r).control = s.control := rfl
@[simp] theorem State.setProfile_power : (s.setProfile i r).power = s.power := rfl
@[simp] theorem State.setProfile_log : (s.setProfile i r).log = s.log := rfl
@[simp] theorem State.setProfile_now : (s.setProfile i r).now = s.now := rfl
@[simp] theorem State.setProfile_fills : (s.setProfile i r).fills = s.fills := rfl
@[simp] theorem State.setProfile_pending : (s.setProfile i r).pending = s.pending := rfl
@[simp] theorem State.setProfile_tenant (k : Nat) : (s.setProfile i r).tenant k = s.tenant k := rfl
@[simp] theorem State.setProfile_unit (k : Nat) : (s.setProfile i r).unit k = s.unit k := rfl
@[simp] theorem State.setProfile_station (k : Nat) : (s.setProfile i r).station k = s.station k := rfl
@[simp] theorem State.setProfile_car (k : Nat) : (s.setProfile i r).car k = s.car k := rfl
@[simp] theorem State.setProfile_channel (k : Nat) : (s.setProfile i r).channel k = s.channel k := rfl
@[simp] theorem State.setProfile_param (k : Nat) : (s.setProfile i r).param k = s.param k := rfl
@[simp] theorem State.setProfile_running : (s.setProfile i r).running = s.running := rfl
@[simp] theorem State.setProfile_port (p : Port) : (s.setProfile i r).port p = s.port p := by cases p <;> rfl
@[simp] theorem State.setProfile_presence (k : Nat) : (s.setProfile i r).presence k = s.presence k := rfl
@[simp] theorem State.setProfile_isPresent (k : Nat) : (s.setProfile i r).isPresent k = s.isPresent k := rfl
end

/-! ### setStation -/

section
variable (n : Nat) (r : StationSlot)
@[simp] theorem State.setStation_office : (s.setStation n r).office = s.office := rfl
@[simp] theorem State.setStation_lift : (s.setStation n r).lift = s.lift := rfl
@[simp] theorem State.setStation_field : (s.setStation n r).field = s.field := rfl
@[simp] theorem State.setStation_cursor : (s.setStation n r).cursor = s.cursor := rfl
@[simp] theorem State.setStation_tenants : (s.setStation n r).tenants = s.tenants := rfl
@[simp] theorem State.setStation_units : (s.setStation n r).units = s.units := rfl
@[simp] theorem State.setStation_profiles : (s.setStation n r).profiles = s.profiles := rfl
@[simp] theorem State.setStation_clock : (s.setStation n r).clock = s.clock := rfl
@[simp] theorem State.setStation_roster : (s.setStation n r).roster = s.roster := rfl
@[simp] theorem State.setStation_stations : (s.setStation n r).stations = Table.set StationSlot.cold s.stations n r := rfl
@[simp] theorem State.setStation_cars : (s.setStation n r).cars = s.cars := rfl
@[simp] theorem State.setStation_channels : (s.setStation n r).channels = s.channels := rfl
@[simp] theorem State.setStation_strike : (s.setStation n r).strike = s.strike := rfl
@[simp] theorem State.setStation_loader : (s.setStation n r).loader = s.loader := rfl
@[simp] theorem State.setStation_params : (s.setStation n r).params = s.params := rfl
@[simp] theorem State.setStation_window : (s.setStation n r).window = s.window := rfl
@[simp] theorem State.setStation_sweep : (s.setStation n r).sweep = s.sweep := rfl
@[simp] theorem State.setStation_control : (s.setStation n r).control = s.control := rfl
@[simp] theorem State.setStation_power : (s.setStation n r).power = s.power := rfl
@[simp] theorem State.setStation_log : (s.setStation n r).log = s.log := rfl
@[simp] theorem State.setStation_now : (s.setStation n r).now = s.now := rfl
@[simp] theorem State.setStation_fills : (s.setStation n r).fills = s.fills := rfl
@[simp] theorem State.setStation_pending : (s.setStation n r).pending = s.pending := rfl
@[simp] theorem State.setStation_tenant (k : Nat) : (s.setStation n r).tenant k = s.tenant k := rfl
@[simp] theorem State.setStation_unit (k : Nat) : (s.setStation n r).unit k = s.unit k := rfl
@[simp] theorem State.setStation_profile (k : Nat) : (s.setStation n r).profile k = s.profile k := rfl
@[simp] theorem State.setStation_car (k : Nat) : (s.setStation n r).car k = s.car k := rfl
@[simp] theorem State.setStation_channel (k : Nat) : (s.setStation n r).channel k = s.channel k := rfl
@[simp] theorem State.setStation_param (k : Nat) : (s.setStation n r).param k = s.param k := rfl
@[simp] theorem State.setStation_running : (s.setStation n r).running = s.running := rfl
@[simp] theorem State.setStation_port (p : Port) : (s.setStation n r).port p = s.port p := by cases p <;> rfl
@[simp] theorem State.setStation_presence (k : Nat) : (s.setStation n r).presence k = s.presence k := rfl
@[simp] theorem State.setStation_isPresent (k : Nat) : (s.setStation n r).isPresent k = s.isPresent k := rfl
end

/-! ### setCar -/

section
variable (n : Nat) (r : CarSlot)
@[simp] theorem State.setCar_office : (s.setCar n r).office = s.office := rfl
@[simp] theorem State.setCar_lift : (s.setCar n r).lift = s.lift := rfl
@[simp] theorem State.setCar_field : (s.setCar n r).field = s.field := rfl
@[simp] theorem State.setCar_cursor : (s.setCar n r).cursor = s.cursor := rfl
@[simp] theorem State.setCar_tenants : (s.setCar n r).tenants = s.tenants := rfl
@[simp] theorem State.setCar_units : (s.setCar n r).units = s.units := rfl
@[simp] theorem State.setCar_profiles : (s.setCar n r).profiles = s.profiles := rfl
@[simp] theorem State.setCar_clock : (s.setCar n r).clock = s.clock := rfl
@[simp] theorem State.setCar_roster : (s.setCar n r).roster = s.roster := rfl
@[simp] theorem State.setCar_stations : (s.setCar n r).stations = s.stations := rfl
@[simp] theorem State.setCar_cars : (s.setCar n r).cars = Table.set CarSlot.cold s.cars n r := rfl
@[simp] theorem State.setCar_channels : (s.setCar n r).channels = s.channels := rfl
@[simp] theorem State.setCar_strike : (s.setCar n r).strike = s.strike := rfl
@[simp] theorem State.setCar_loader : (s.setCar n r).loader = s.loader := rfl
@[simp] theorem State.setCar_params : (s.setCar n r).params = s.params := rfl
@[simp] theorem State.setCar_window : (s.setCar n r).window = s.window := rfl
@[simp] theorem State.setCar_sweep : (s.setCar n r).sweep = s.sweep := rfl
@[simp] theorem State.setCar_control : (s.setCar n r).control = s.control := rfl
@[simp] theorem State.setCar_power : (s.setCar n r).power = s.power := rfl
@[simp] theorem State.setCar_log : (s.setCar n r).log = s.log := rfl
@[simp] theorem State.setCar_now : (s.setCar n r).now = s.now := rfl
@[simp] theorem State.setCar_fills : (s.setCar n r).fills = s.fills := rfl
@[simp] theorem State.setCar_pending : (s.setCar n r).pending = s.pending := rfl
@[simp] theorem State.setCar_tenant (k : Nat) : (s.setCar n r).tenant k = s.tenant k := rfl
@[simp] theorem State.setCar_unit (k : Nat) : (s.setCar n r).unit k = s.unit k := rfl
@[simp] theorem State.setCar_profile (k : Nat) : (s.setCar n r).profile k = s.profile k := rfl
@[simp] theorem State.setCar_station (k : Nat) : (s.setCar n r).station k = s.station k := rfl
@[simp] theorem State.setCar_channel (k : Nat) : (s.setCar n r).channel k = s.channel k := rfl
@[simp] theorem State.setCar_param (k : Nat) : (s.setCar n r).param k = s.param k := rfl
@[simp] theorem State.setCar_running : (s.setCar n r).running = s.running := rfl
@[simp] theorem State.setCar_port (p : Port) : (s.setCar n r).port p = s.port p := by cases p <;> rfl
@[simp] theorem State.setCar_presence (k : Nat) : (s.setCar n r).presence k = s.presence k := rfl
@[simp] theorem State.setCar_isPresent (k : Nat) : (s.setCar n r).isPresent k = s.isPresent k := rfl
end

/-! ### setChannel -/

section
variable (c : Nat) (r : Channel)
@[simp] theorem State.setChannel_office : (s.setChannel c r).office = s.office := rfl
@[simp] theorem State.setChannel_lift : (s.setChannel c r).lift = s.lift := rfl
@[simp] theorem State.setChannel_field : (s.setChannel c r).field = s.field := rfl
@[simp] theorem State.setChannel_cursor : (s.setChannel c r).cursor = s.cursor := rfl
@[simp] theorem State.setChannel_tenants : (s.setChannel c r).tenants = s.tenants := rfl
@[simp] theorem State.setChannel_units : (s.setChannel c r).units = s.units := rfl
@[simp] theorem State.setChannel_profiles : (s.setChannel c r).profiles = s.profiles := rfl
@[simp] theorem State.setChannel_clock : (s.setChannel c r).clock = s.clock := rfl
@[simp] theorem State.setChannel_roster : (s.setChannel c r).roster = s.roster := rfl
@[simp] theorem State.setChannel_stations : (s.setChannel c r).stations = s.stations := rfl
@[simp] theorem State.setChannel_cars : (s.setChannel c r).cars = s.cars := rfl
@[simp] theorem State.setChannel_channels : (s.setChannel c r).channels = Table.set Channel.cold s.channels c r := rfl
@[simp] theorem State.setChannel_strike : (s.setChannel c r).strike = s.strike := rfl
@[simp] theorem State.setChannel_loader : (s.setChannel c r).loader = s.loader := rfl
@[simp] theorem State.setChannel_params : (s.setChannel c r).params = s.params := rfl
@[simp] theorem State.setChannel_window : (s.setChannel c r).window = s.window := rfl
@[simp] theorem State.setChannel_sweep : (s.setChannel c r).sweep = s.sweep := rfl
@[simp] theorem State.setChannel_control : (s.setChannel c r).control = s.control := rfl
@[simp] theorem State.setChannel_power : (s.setChannel c r).power = s.power := rfl
@[simp] theorem State.setChannel_log : (s.setChannel c r).log = s.log := rfl
@[simp] theorem State.setChannel_now : (s.setChannel c r).now = s.now := rfl
@[simp] theorem State.setChannel_fills : (s.setChannel c r).fills = s.fills := rfl
@[simp] theorem State.setChannel_pending : (s.setChannel c r).pending = s.pending := rfl
@[simp] theorem State.setChannel_tenant (k : Nat) : (s.setChannel c r).tenant k = s.tenant k := rfl
@[simp] theorem State.setChannel_unit (k : Nat) : (s.setChannel c r).unit k = s.unit k := rfl
@[simp] theorem State.setChannel_profile (k : Nat) : (s.setChannel c r).profile k = s.profile k := rfl
@[simp] theorem State.setChannel_station (k : Nat) : (s.setChannel c r).station k = s.station k := rfl
@[simp] theorem State.setChannel_car (k : Nat) : (s.setChannel c r).car k = s.car k := rfl
@[simp] theorem State.setChannel_param (k : Nat) : (s.setChannel c r).param k = s.param k := rfl
@[simp] theorem State.setChannel_running : (s.setChannel c r).running = s.running := rfl
@[simp] theorem State.setChannel_port (p : Port) : (s.setChannel c r).port p = s.port p := by cases p <;> rfl
@[simp] theorem State.setChannel_presence (k : Nat) : (s.setChannel c r).presence k = s.presence k := rfl
@[simp] theorem State.setChannel_isPresent (k : Nat) : (s.setChannel c r).isPresent k = s.isPresent k := rfl
end

/-! ### setParam -/

section
variable (w : Nat) (v : Word)
@[simp] theorem State.setParam_office : (s.setParam w v).office = s.office := rfl
@[simp] theorem State.setParam_lift : (s.setParam w v).lift = s.lift := rfl
@[simp] theorem State.setParam_field : (s.setParam w v).field = s.field := rfl
@[simp] theorem State.setParam_cursor : (s.setParam w v).cursor = s.cursor := rfl
@[simp] theorem State.setParam_tenants : (s.setParam w v).tenants = s.tenants := rfl
@[simp] theorem State.setParam_units : (s.setParam w v).units = s.units := rfl
@[simp] theorem State.setParam_profiles : (s.setParam w v).profiles = s.profiles := rfl
@[simp] theorem State.setParam_clock : (s.setParam w v).clock = s.clock := rfl
@[simp] theorem State.setParam_roster : (s.setParam w v).roster = s.roster := rfl
@[simp] theorem State.setParam_stations : (s.setParam w v).stations = s.stations := rfl
@[simp] theorem State.setParam_cars : (s.setParam w v).cars = s.cars := rfl
@[simp] theorem State.setParam_channels : (s.setParam w v).channels = s.channels := rfl
@[simp] theorem State.setParam_strike : (s.setParam w v).strike = s.strike := rfl
@[simp] theorem State.setParam_loader : (s.setParam w v).loader = s.loader := rfl
@[simp] theorem State.setParam_params : (s.setParam w v).params = Table.set 0 s.params w v := rfl
@[simp] theorem State.setParam_window : (s.setParam w v).window = s.window := rfl
@[simp] theorem State.setParam_sweep : (s.setParam w v).sweep = s.sweep := rfl
@[simp] theorem State.setParam_control : (s.setParam w v).control = s.control := rfl
@[simp] theorem State.setParam_power : (s.setParam w v).power = s.power := rfl
@[simp] theorem State.setParam_log : (s.setParam w v).log = s.log := rfl
@[simp] theorem State.setParam_now : (s.setParam w v).now = s.now := rfl
@[simp] theorem State.setParam_fills : (s.setParam w v).fills = s.fills := rfl
@[simp] theorem State.setParam_pending : (s.setParam w v).pending = s.pending := rfl
@[simp] theorem State.setParam_tenant (k : Nat) : (s.setParam w v).tenant k = s.tenant k := rfl
@[simp] theorem State.setParam_unit (k : Nat) : (s.setParam w v).unit k = s.unit k := rfl
@[simp] theorem State.setParam_profile (k : Nat) : (s.setParam w v).profile k = s.profile k := rfl
@[simp] theorem State.setParam_station (k : Nat) : (s.setParam w v).station k = s.station k := rfl
@[simp] theorem State.setParam_car (k : Nat) : (s.setParam w v).car k = s.car k := rfl
@[simp] theorem State.setParam_channel (k : Nat) : (s.setParam w v).channel k = s.channel k := rfl
@[simp] theorem State.setParam_running : (s.setParam w v).running = s.running := rfl
@[simp] theorem State.setParam_port (p : Port) : (s.setParam w v).port p = s.port p := by cases p <;> rfl
@[simp] theorem State.setParam_presence (k : Nat) : (s.setParam w v).presence k = s.presence k := rfl
@[simp] theorem State.setParam_isPresent (k : Nat) : (s.setParam w v).isPresent k = s.isPresent k := rfl
end

/-! ### setCursor -/

section
variable (x : Option Nat)
@[simp] theorem State.setCursor_office : (s.setCursor x).office = s.office := rfl
@[simp] theorem State.setCursor_lift : (s.setCursor x).lift = s.lift := rfl
@[simp] theorem State.setCursor_field : (s.setCursor x).field = s.field := rfl
@[simp] theorem State.setCursor_cursor : (s.setCursor x).cursor = x := rfl
@[simp] theorem State.setCursor_tenants : (s.setCursor x).tenants = s.tenants := rfl
@[simp] theorem State.setCursor_units : (s.setCursor x).units = s.units := rfl
@[simp] theorem State.setCursor_profiles : (s.setCursor x).profiles = s.profiles := rfl
@[simp] theorem State.setCursor_clock : (s.setCursor x).clock = s.clock := rfl
@[simp] theorem State.setCursor_roster : (s.setCursor x).roster = s.roster := rfl
@[simp] theorem State.setCursor_stations : (s.setCursor x).stations = s.stations := rfl
@[simp] theorem State.setCursor_cars : (s.setCursor x).cars = s.cars := rfl
@[simp] theorem State.setCursor_channels : (s.setCursor x).channels = s.channels := rfl
@[simp] theorem State.setCursor_strike : (s.setCursor x).strike = s.strike := rfl
@[simp] theorem State.setCursor_loader : (s.setCursor x).loader = s.loader := rfl
@[simp] theorem State.setCursor_params : (s.setCursor x).params = s.params := rfl
@[simp] theorem State.setCursor_window : (s.setCursor x).window = s.window := rfl
@[simp] theorem State.setCursor_sweep : (s.setCursor x).sweep = s.sweep := rfl
@[simp] theorem State.setCursor_control : (s.setCursor x).control = s.control := rfl
@[simp] theorem State.setCursor_power : (s.setCursor x).power = s.power := rfl
@[simp] theorem State.setCursor_log : (s.setCursor x).log = s.log := rfl
@[simp] theorem State.setCursor_now : (s.setCursor x).now = s.now := rfl
@[simp] theorem State.setCursor_fills : (s.setCursor x).fills = s.fills := rfl
@[simp] theorem State.setCursor_pending : (s.setCursor x).pending = s.pending := rfl
@[simp] theorem State.setCursor_tenant (k : Nat) : (s.setCursor x).tenant k = s.tenant k := rfl
@[simp] theorem State.setCursor_unit (k : Nat) : (s.setCursor x).unit k = s.unit k := rfl
@[simp] theorem State.setCursor_profile (k : Nat) : (s.setCursor x).profile k = s.profile k := rfl
@[simp] theorem State.setCursor_station (k : Nat) : (s.setCursor x).station k = s.station k := rfl
@[simp] theorem State.setCursor_car (k : Nat) : (s.setCursor x).car k = s.car k := rfl
@[simp] theorem State.setCursor_channel (k : Nat) : (s.setCursor x).channel k = s.channel k := rfl
@[simp] theorem State.setCursor_param (k : Nat) : (s.setCursor x).param k = s.param k := rfl
@[simp] theorem State.setCursor_running : (s.setCursor x).running = s.running := rfl
@[simp] theorem State.setCursor_port (p : Port) : (s.setCursor x).port p = s.port p := by cases p <;> rfl
@[simp] theorem State.setCursor_presence (k : Nat) : (s.setCursor x).presence k = s.presence k := rfl
@[simp] theorem State.setCursor_isPresent (k : Nat) : (s.setCursor x).isPresent k = s.isPresent k := rfl
end

/-! ### setClock -/

section
variable (x : Clock)
@[simp] theorem State.setClock_office : (s.setClock x).office = s.office := rfl
@[simp] theorem State.setClock_lift : (s.setClock x).lift = s.lift := rfl
@[simp] theorem State.setClock_field : (s.setClock x).field = s.field := rfl
@[simp] theorem State.setClock_cursor : (s.setClock x).cursor = s.cursor := rfl
@[simp] theorem State.setClock_tenants : (s.setClock x).tenants = s.tenants := rfl
@[simp] theorem State.setClock_units : (s.setClock x).units = s.units := rfl
@[simp] theorem State.setClock_profiles : (s.setClock x).profiles = s.profiles := rfl
@[simp] theorem State.setClock_clock : (s.setClock x).clock = x := rfl
@[simp] theorem State.setClock_roster : (s.setClock x).roster = s.roster := rfl
@[simp] theorem State.setClock_stations : (s.setClock x).stations = s.stations := rfl
@[simp] theorem State.setClock_cars : (s.setClock x).cars = s.cars := rfl
@[simp] theorem State.setClock_channels : (s.setClock x).channels = s.channels := rfl
@[simp] theorem State.setClock_strike : (s.setClock x).strike = s.strike := rfl
@[simp] theorem State.setClock_loader : (s.setClock x).loader = s.loader := rfl
@[simp] theorem State.setClock_params : (s.setClock x).params = s.params := rfl
@[simp] theorem State.setClock_window : (s.setClock x).window = s.window := rfl
@[simp] theorem State.setClock_sweep : (s.setClock x).sweep = s.sweep := rfl
@[simp] theorem State.setClock_control : (s.setClock x).control = s.control := rfl
@[simp] theorem State.setClock_power : (s.setClock x).power = s.power := rfl
@[simp] theorem State.setClock_log : (s.setClock x).log = s.log := rfl
@[simp] theorem State.setClock_now : (s.setClock x).now = s.now := rfl
@[simp] theorem State.setClock_fills : (s.setClock x).fills = s.fills := rfl
@[simp] theorem State.setClock_pending : (s.setClock x).pending = s.pending := rfl
@[simp] theorem State.setClock_tenant (k : Nat) : (s.setClock x).tenant k = s.tenant k := rfl
@[simp] theorem State.setClock_unit (k : Nat) : (s.setClock x).unit k = s.unit k := rfl
@[simp] theorem State.setClock_profile (k : Nat) : (s.setClock x).profile k = s.profile k := rfl
@[simp] theorem State.setClock_station (k : Nat) : (s.setClock x).station k = s.station k := rfl
@[simp] theorem State.setClock_car (k : Nat) : (s.setClock x).car k = s.car k := rfl
@[simp] theorem State.setClock_channel (k : Nat) : (s.setClock x).channel k = s.channel k := rfl
@[simp] theorem State.setClock_param (k : Nat) : (s.setClock x).param k = s.param k := rfl
@[simp] theorem State.setClock_running : (s.setClock x).running = s.running := rfl
@[simp] theorem State.setClock_port (p : Port) : (s.setClock x).port p = s.port p := by cases p <;> rfl
@[simp] theorem State.setClock_presence (k : Nat) : (s.setClock x).presence k = s.presence k := rfl
@[simp] theorem State.setClock_isPresent (k : Nat) : (s.setClock x).isPresent k = s.isPresent k := rfl
end

/-! ### setRoster -/

section
variable (x : List Presence)
@[simp] theorem State.setRoster_office : (s.setRoster x).office = s.office := rfl
@[simp] theorem State.setRoster_lift : (s.setRoster x).lift = s.lift := rfl
@[simp] theorem State.setRoster_field : (s.setRoster x).field = s.field := rfl
@[simp] theorem State.setRoster_cursor : (s.setRoster x).cursor = s.cursor := rfl
@[simp] theorem State.setRoster_tenants : (s.setRoster x).tenants = s.tenants := rfl
@[simp] theorem State.setRoster_units : (s.setRoster x).units = s.units := rfl
@[simp] theorem State.setRoster_profiles : (s.setRoster x).profiles = s.profiles := rfl
@[simp] theorem State.setRoster_clock : (s.setRoster x).clock = s.clock := rfl
@[simp] theorem State.setRoster_roster : (s.setRoster x).roster = x := rfl
@[simp] theorem State.setRoster_stations : (s.setRoster x).stations = s.stations := rfl
@[simp] theorem State.setRoster_cars : (s.setRoster x).cars = s.cars := rfl
@[simp] theorem State.setRoster_channels : (s.setRoster x).channels = s.channels := rfl
@[simp] theorem State.setRoster_strike : (s.setRoster x).strike = s.strike := rfl
@[simp] theorem State.setRoster_loader : (s.setRoster x).loader = s.loader := rfl
@[simp] theorem State.setRoster_params : (s.setRoster x).params = s.params := rfl
@[simp] theorem State.setRoster_window : (s.setRoster x).window = s.window := rfl
@[simp] theorem State.setRoster_sweep : (s.setRoster x).sweep = s.sweep := rfl
@[simp] theorem State.setRoster_control : (s.setRoster x).control = s.control := rfl
@[simp] theorem State.setRoster_power : (s.setRoster x).power = s.power := rfl
@[simp] theorem State.setRoster_log : (s.setRoster x).log = s.log := rfl
@[simp] theorem State.setRoster_now : (s.setRoster x).now = s.now := rfl
@[simp] theorem State.setRoster_fills : (s.setRoster x).fills = s.fills := rfl
@[simp] theorem State.setRoster_pending : (s.setRoster x).pending = s.pending := rfl
@[simp] theorem State.setRoster_tenant (k : Nat) : (s.setRoster x).tenant k = s.tenant k := rfl
@[simp] theorem State.setRoster_unit (k : Nat) : (s.setRoster x).unit k = s.unit k := rfl
@[simp] theorem State.setRoster_profile (k : Nat) : (s.setRoster x).profile k = s.profile k := rfl
@[simp] theorem State.setRoster_station (k : Nat) : (s.setRoster x).station k = s.station k := rfl
@[simp] theorem State.setRoster_car (k : Nat) : (s.setRoster x).car k = s.car k := rfl
@[simp] theorem State.setRoster_channel (k : Nat) : (s.setRoster x).channel k = s.channel k := rfl
@[simp] theorem State.setRoster_param (k : Nat) : (s.setRoster x).param k = s.param k := rfl
@[simp] theorem State.setRoster_running : (s.setRoster x).running = s.running := rfl
@[simp] theorem State.setRoster_port (p : Port) : (s.setRoster x).port p = s.port p := by cases p <;> rfl
end

/-! ### setStrike -/

section
variable (x : Strike)
@[simp] theorem State.setStrike_office : (s.setStrike x).office = s.office := rfl
@[simp] theorem State.setStrike_lift : (s.setStrike x).lift = s.lift := rfl
@[simp] theorem State.setStrike_field : (s.setStrike x).field = s.field := rfl
@[simp] theorem State.setStrike_cursor : (s.setStrike x).cursor = s.cursor := rfl
@[simp] theorem State.setStrike_tenants : (s.setStrike x).tenants = s.tenants := rfl
@[simp] theorem State.setStrike_units : (s.setStrike x).units = s.units := rfl
@[simp] theorem State.setStrike_profiles : (s.setStrike x).profiles = s.profiles := rfl
@[simp] theorem State.setStrike_clock : (s.setStrike x).clock = s.clock := rfl
@[simp] theorem State.setStrike_roster : (s.setStrike x).roster = s.roster := rfl
@[simp] theorem State.setStrike_stations : (s.setStrike x).stations = s.stations := rfl
@[simp] theorem State.setStrike_cars : (s.setStrike x).cars = s.cars := rfl
@[simp] theorem State.setStrike_channels : (s.setStrike x).channels = s.channels := rfl
@[simp] theorem State.setStrike_strike : (s.setStrike x).strike = x := rfl
@[simp] theorem State.setStrike_loader : (s.setStrike x).loader = s.loader := rfl
@[simp] theorem State.setStrike_params : (s.setStrike x).params = s.params := rfl
@[simp] theorem State.setStrike_window : (s.setStrike x).window = s.window := rfl
@[simp] theorem State.setStrike_sweep : (s.setStrike x).sweep = s.sweep := rfl
@[simp] theorem State.setStrike_control : (s.setStrike x).control = s.control := rfl
@[simp] theorem State.setStrike_power : (s.setStrike x).power = s.power := rfl
@[simp] theorem State.setStrike_log : (s.setStrike x).log = s.log := rfl
@[simp] theorem State.setStrike_now : (s.setStrike x).now = s.now := rfl
@[simp] theorem State.setStrike_fills : (s.setStrike x).fills = s.fills := rfl
@[simp] theorem State.setStrike_pending : (s.setStrike x).pending = s.pending := rfl
@[simp] theorem State.setStrike_tenant (k : Nat) : (s.setStrike x).tenant k = s.tenant k := rfl
@[simp] theorem State.setStrike_unit (k : Nat) : (s.setStrike x).unit k = s.unit k := rfl
@[simp] theorem State.setStrike_profile (k : Nat) : (s.setStrike x).profile k = s.profile k := rfl
@[simp] theorem State.setStrike_station (k : Nat) : (s.setStrike x).station k = s.station k := rfl
@[simp] theorem State.setStrike_car (k : Nat) : (s.setStrike x).car k = s.car k := rfl
@[simp] theorem State.setStrike_channel (k : Nat) : (s.setStrike x).channel k = s.channel k := rfl
@[simp] theorem State.setStrike_param (k : Nat) : (s.setStrike x).param k = s.param k := rfl
@[simp] theorem State.setStrike_running : (s.setStrike x).running = s.running := rfl
@[simp] theorem State.setStrike_port (p : Port) : (s.setStrike x).port p = s.port p := by cases p <;> rfl
@[simp] theorem State.setStrike_presence (k : Nat) : (s.setStrike x).presence k = s.presence k := rfl
@[simp] theorem State.setStrike_isPresent (k : Nat) : (s.setStrike x).isPresent k = s.isPresent k := rfl
end

/-! ### setLoader -/

section
variable (x : Loader)
@[simp] theorem State.setLoader_office : (s.setLoader x).office = s.office := rfl
@[simp] theorem State.setLoader_lift : (s.setLoader x).lift = s.lift := rfl
@[simp] theorem State.setLoader_field : (s.setLoader x).field = s.field := rfl
@[simp] theorem State.setLoader_cursor : (s.setLoader x).cursor = s.cursor := rfl
@[simp] theorem State.setLoader_tenants : (s.setLoader x).tenants = s.tenants := rfl
@[simp] theorem State.setLoader_units : (s.setLoader x).units = s.units := rfl
@[simp] theorem State.setLoader_profiles : (s.setLoader x).profiles = s.profiles := rfl
@[simp] theorem State.setLoader_clock : (s.setLoader x).clock = s.clock := rfl
@[simp] theorem State.setLoader_roster : (s.setLoader x).roster = s.roster := rfl
@[simp] theorem State.setLoader_stations : (s.setLoader x).stations = s.stations := rfl
@[simp] theorem State.setLoader_cars : (s.setLoader x).cars = s.cars := rfl
@[simp] theorem State.setLoader_channels : (s.setLoader x).channels = s.channels := rfl
@[simp] theorem State.setLoader_strike : (s.setLoader x).strike = s.strike := rfl
@[simp] theorem State.setLoader_loader : (s.setLoader x).loader = x := rfl
@[simp] theorem State.setLoader_params : (s.setLoader x).params = s.params := rfl
@[simp] theorem State.setLoader_window : (s.setLoader x).window = s.window := rfl
@[simp] theorem State.setLoader_sweep : (s.setLoader x).sweep = s.sweep := rfl
@[simp] theorem State.setLoader_control : (s.setLoader x).control = s.control := rfl
@[simp] theorem State.setLoader_power : (s.setLoader x).power = s.power := rfl
@[simp] theorem State.setLoader_log : (s.setLoader x).log = s.log := rfl
@[simp] theorem State.setLoader_now : (s.setLoader x).now = s.now := rfl
@[simp] theorem State.setLoader_fills : (s.setLoader x).fills = s.fills := rfl
@[simp] theorem State.setLoader_pending : (s.setLoader x).pending = s.pending := rfl
@[simp] theorem State.setLoader_tenant (k : Nat) : (s.setLoader x).tenant k = s.tenant k := rfl
@[simp] theorem State.setLoader_unit (k : Nat) : (s.setLoader x).unit k = s.unit k := rfl
@[simp] theorem State.setLoader_profile (k : Nat) : (s.setLoader x).profile k = s.profile k := rfl
@[simp] theorem State.setLoader_station (k : Nat) : (s.setLoader x).station k = s.station k := rfl
@[simp] theorem State.setLoader_car (k : Nat) : (s.setLoader x).car k = s.car k := rfl
@[simp] theorem State.setLoader_channel (k : Nat) : (s.setLoader x).channel k = s.channel k := rfl
@[simp] theorem State.setLoader_param (k : Nat) : (s.setLoader x).param k = s.param k := rfl
@[simp] theorem State.setLoader_running : (s.setLoader x).running = s.running := rfl
@[simp] theorem State.setLoader_port (p : Port) : (s.setLoader x).port p = s.port p := by cases p <;> rfl
@[simp] theorem State.setLoader_presence (k : Nat) : (s.setLoader x).presence k = s.presence k := rfl
@[simp] theorem State.setLoader_isPresent (k : Nat) : (s.setLoader x).isPresent k = s.isPresent k := rfl
end

/-! ### setControl -/

section
variable (x : Control)
@[simp] theorem State.setControl_office : (s.setControl x).office = s.office := rfl
@[simp] theorem State.setControl_lift : (s.setControl x).lift = s.lift := rfl
@[simp] theorem State.setControl_field : (s.setControl x).field = s.field := rfl
@[simp] theorem State.setControl_cursor : (s.setControl x).cursor = s.cursor := rfl
@[simp] theorem State.setControl_tenants : (s.setControl x).tenants = s.tenants := rfl
@[simp] theorem State.setControl_units : (s.setControl x).units = s.units := rfl
@[simp] theorem State.setControl_profiles : (s.setControl x).profiles = s.profiles := rfl
@[simp] theorem State.setControl_clock : (s.setControl x).clock = s.clock := rfl
@[simp] theorem State.setControl_roster : (s.setControl x).roster = s.roster := rfl
@[simp] theorem State.setControl_stations : (s.setControl x).stations = s.stations := rfl
@[simp] theorem State.setControl_cars : (s.setControl x).cars = s.cars := rfl
@[simp] theorem State.setControl_channels : (s.setControl x).channels = s.channels := rfl
@[simp] theorem State.setControl_strike : (s.setControl x).strike = s.strike := rfl
@[simp] theorem State.setControl_loader : (s.setControl x).loader = s.loader := rfl
@[simp] theorem State.setControl_params : (s.setControl x).params = s.params := rfl
@[simp] theorem State.setControl_window : (s.setControl x).window = s.window := rfl
@[simp] theorem State.setControl_sweep : (s.setControl x).sweep = s.sweep := rfl
@[simp] theorem State.setControl_control : (s.setControl x).control = x := rfl
@[simp] theorem State.setControl_power : (s.setControl x).power = s.power := rfl
@[simp] theorem State.setControl_log : (s.setControl x).log = s.log := rfl
@[simp] theorem State.setControl_now : (s.setControl x).now = s.now := rfl
@[simp] theorem State.setControl_fills : (s.setControl x).fills = s.fills := rfl
@[simp] theorem State.setControl_pending : (s.setControl x).pending = s.pending := rfl
@[simp] theorem State.setControl_tenant (k : Nat) : (s.setControl x).tenant k = s.tenant k := rfl
@[simp] theorem State.setControl_unit (k : Nat) : (s.setControl x).unit k = s.unit k := rfl
@[simp] theorem State.setControl_profile (k : Nat) : (s.setControl x).profile k = s.profile k := rfl
@[simp] theorem State.setControl_station (k : Nat) : (s.setControl x).station k = s.station k := rfl
@[simp] theorem State.setControl_car (k : Nat) : (s.setControl x).car k = s.car k := rfl
@[simp] theorem State.setControl_channel (k : Nat) : (s.setControl x).channel k = s.channel k := rfl
@[simp] theorem State.setControl_param (k : Nat) : (s.setControl x).param k = s.param k := rfl
@[simp] theorem State.setControl_running : (s.setControl x).running = s.running := rfl
@[simp] theorem State.setControl_port (p : Port) : (s.setControl x).port p = s.port p := by cases p <;> rfl
@[simp] theorem State.setControl_presence (k : Nat) : (s.setControl x).presence k = s.presence k := rfl
@[simp] theorem State.setControl_isPresent (k : Nat) : (s.setControl x).isPresent k = s.isPresent k := rfl
end

/-! ### setPower -/

section
variable (x : Power)
@[simp] theorem State.setPower_office : (s.setPower x).office = s.office := rfl
@[simp] theorem State.setPower_lift : (s.setPower x).lift = s.lift := rfl
@[simp] theorem State.setPower_field : (s.setPower x).field = s.field := rfl
@[simp] theorem State.setPower_cursor : (s.setPower x).cursor = s.cursor := rfl
@[simp] theorem State.setPower_tenants : (s.setPower x).tenants = s.tenants := rfl
@[simp] theorem State.setPower_units : (s.setPower x).units = s.units := rfl
@[simp] theorem State.setPower_profiles : (s.setPower x).profiles = s.profiles := rfl
@[simp] theorem State.setPower_clock : (s.setPower x).clock = s.clock := rfl
@[simp] theorem State.setPower_roster : (s.setPower x).roster = s.roster := rfl
@[simp] theorem State.setPower_stations : (s.setPower x).stations = s.stations := rfl
@[simp] theorem State.setPower_cars : (s.setPower x).cars = s.cars := rfl
@[simp] theorem State.setPower_channels : (s.setPower x).channels = s.channels := rfl
@[simp] theorem State.setPower_strike : (s.setPower x).strike = s.strike := rfl
@[simp] theorem State.setPower_loader : (s.setPower x).loader = s.loader := rfl
@[simp] theorem State.setPower_params : (s.setPower x).params = s.params := rfl
@[simp] theorem State.setPower_window : (s.setPower x).window = s.window := rfl
@[simp] theorem State.setPower_sweep : (s.setPower x).sweep = s.sweep := rfl
@[simp] theorem State.setPower_control : (s.setPower x).control = s.control := rfl
@[simp] theorem State.setPower_power : (s.setPower x).power = x := rfl
@[simp] theorem State.setPower_log : (s.setPower x).log = s.log := rfl
@[simp] theorem State.setPower_now : (s.setPower x).now = s.now := rfl
@[simp] theorem State.setPower_fills : (s.setPower x).fills = s.fills := rfl
@[simp] theorem State.setPower_pending : (s.setPower x).pending = s.pending := rfl
@[simp] theorem State.setPower_tenant (k : Nat) : (s.setPower x).tenant k = s.tenant k := rfl
@[simp] theorem State.setPower_unit (k : Nat) : (s.setPower x).unit k = s.unit k := rfl
@[simp] theorem State.setPower_profile (k : Nat) : (s.setPower x).profile k = s.profile k := rfl
@[simp] theorem State.setPower_station (k : Nat) : (s.setPower x).station k = s.station k := rfl
@[simp] theorem State.setPower_car (k : Nat) : (s.setPower x).car k = s.car k := rfl
@[simp] theorem State.setPower_channel (k : Nat) : (s.setPower x).channel k = s.channel k := rfl
@[simp] theorem State.setPower_param (k : Nat) : (s.setPower x).param k = s.param k := rfl
@[simp] theorem State.setPower_port (p : Port) : (s.setPower x).port p = s.port p := by cases p <;> rfl
@[simp] theorem State.setPower_presence (k : Nat) : (s.setPower x).presence k = s.presence k := rfl
@[simp] theorem State.setPower_isPresent (k : Nat) : (s.setPower x).isPresent k = s.isPresent k := rfl
end

/-! ### setLog -/

section
variable (x : Log)
@[simp] theorem State.setLog_office : (s.setLog x).office = s.office := rfl
@[simp] theorem State.setLog_lift : (s.setLog x).lift = s.lift := rfl
@[simp] theorem State.setLog_field : (s.setLog x).field = s.field := rfl
@[simp] theorem State.setLog_cursor : (s.setLog x).cursor = s.cursor := rfl
@[simp] theorem State.setLog_tenants : (s.setLog x).tenants = s.tenants := rfl
@[simp] theorem State.setLog_units : (s.setLog x).units = s.units := rfl
@[simp] theorem State.setLog_profiles : (s.setLog x).profiles = s.profiles := rfl
@[simp] theorem State.setLog_clock : (s.setLog x).clock = s.clock := rfl
@[simp] theorem State.setLog_roster : (s.setLog x).roster = s.roster := rfl
@[simp] theorem State.setLog_stations : (s.setLog x).stations = s.stations := rfl
@[simp] theorem State.setLog_cars : (s.setLog x).cars = s.cars := rfl
@[simp] theorem State.setLog_channels : (s.setLog x).channels = s.channels := rfl
@[simp] theorem State.setLog_strike : (s.setLog x).strike = s.strike := rfl
@[simp] theorem State.setLog_loader : (s.setLog x).loader = s.loader := rfl
@[simp] theorem State.setLog_params : (s.setLog x).params = s.params := rfl
@[simp] theorem State.setLog_window : (s.setLog x).window = s.window := rfl
@[simp] theorem State.setLog_sweep : (s.setLog x).sweep = s.sweep := rfl
@[simp] theorem State.setLog_control : (s.setLog x).control = s.control := rfl
@[simp] theorem State.setLog_power : (s.setLog x).power = s.power := rfl
@[simp] theorem State.setLog_log : (s.setLog x).log = x := rfl
@[simp] theorem State.setLog_now : (s.setLog x).now = s.now := rfl
@[simp] theorem State.setLog_fills : (s.setLog x).fills = s.fills := rfl
@[simp] theorem State.setLog_pending : (s.setLog x).pending = s.pending := rfl
@[simp] theorem State.setLog_tenant (k : Nat) : (s.setLog x).tenant k = s.tenant k := rfl
@[simp] theorem State.setLog_unit (k : Nat) : (s.setLog x).unit k = s.unit k := rfl
@[simp] theorem State.setLog_profile (k : Nat) : (s.setLog x).profile k = s.profile k := rfl
@[simp] theorem State.setLog_station (k : Nat) : (s.setLog x).station k = s.station k := rfl
@[simp] theorem State.setLog_car (k : Nat) : (s.setLog x).car k = s.car k := rfl
@[simp] theorem State.setLog_channel (k : Nat) : (s.setLog x).channel k = s.channel k := rfl
@[simp] theorem State.setLog_param (k : Nat) : (s.setLog x).param k = s.param k := rfl
@[simp] theorem State.setLog_running : (s.setLog x).running = s.running := rfl
@[simp] theorem State.setLog_port (p : Port) : (s.setLog x).port p = s.port p := by cases p <;> rfl
@[simp] theorem State.setLog_presence (k : Nat) : (s.setLog x).presence k = s.presence k := rfl
@[simp] theorem State.setLog_isPresent (k : Nat) : (s.setLog x).isPresent k = s.isPresent k := rfl
end

/-! ### append -/

section
variable (e : Event)
@[simp] theorem State.append_office : (s.append e).office = s.office := rfl
@[simp] theorem State.append_lift : (s.append e).lift = s.lift := rfl
@[simp] theorem State.append_field : (s.append e).field = s.field := rfl
@[simp] theorem State.append_cursor : (s.append e).cursor = s.cursor := rfl
@[simp] theorem State.append_tenants : (s.append e).tenants = s.tenants := rfl
@[simp] theorem State.append_units : (s.append e).units = s.units := rfl
@[simp] theorem State.append_profiles : (s.append e).profiles = s.profiles := rfl
@[simp] theorem State.append_clock : (s.append e).clock = s.clock := rfl
@[simp] theorem State.append_roster : (s.append e).roster = s.roster := rfl
@[simp] theorem State.append_stations : (s.append e).stations = s.stations := rfl
@[simp] theorem State.append_cars : (s.append e).cars = s.cars := rfl
@[simp] theorem State.append_channels : (s.append e).channels = s.channels := rfl
@[simp] theorem State.append_strike : (s.append e).strike = s.strike := rfl
@[simp] theorem State.append_loader : (s.append e).loader = s.loader := rfl
@[simp] theorem State.append_params : (s.append e).params = s.params := rfl
@[simp] theorem State.append_window : (s.append e).window = s.window := rfl
@[simp] theorem State.append_sweep : (s.append e).sweep = s.sweep := rfl
@[simp] theorem State.append_control : (s.append e).control = s.control := rfl
@[simp] theorem State.append_power : (s.append e).power = s.power := rfl
@[simp] theorem State.append_log : (s.append e).log = s.log.append s.clock.minute e := rfl
@[simp] theorem State.append_now : (s.append e).now = s.now := rfl
@[simp] theorem State.append_fills : (s.append e).fills = s.fills := rfl
@[simp] theorem State.append_pending : (s.append e).pending = s.pending := rfl
@[simp] theorem State.append_tenant (k : Nat) : (s.append e).tenant k = s.tenant k := rfl
@[simp] theorem State.append_unit (k : Nat) : (s.append e).unit k = s.unit k := rfl
@[simp] theorem State.append_profile (k : Nat) : (s.append e).profile k = s.profile k := rfl
@[simp] theorem State.append_station (k : Nat) : (s.append e).station k = s.station k := rfl
@[simp] theorem State.append_car (k : Nat) : (s.append e).car k = s.car k := rfl
@[simp] theorem State.append_channel (k : Nat) : (s.append e).channel k = s.channel k := rfl
@[simp] theorem State.append_param (k : Nat) : (s.append e).param k = s.param k := rfl
@[simp] theorem State.append_running : (s.append e).running = s.running := rfl
@[simp] theorem State.append_port (p : Port) : (s.append e).port p = s.port p := by cases p <;> rfl
@[simp] theorem State.append_presence (k : Nat) : (s.append e).presence k = s.presence k := rfl
@[simp] theorem State.append_isPresent (k : Nat) : (s.append e).isPresent k = s.isPresent k := rfl
end

/-! ### setPort -/

section
variable (p : Port) (v : PortState)
@[simp] theorem State.setPort_cursor : (s.setPort p v).cursor = s.cursor := by cases p <;> rfl
@[simp] theorem State.setPort_tenants : (s.setPort p v).tenants = s.tenants := by cases p <;> rfl
@[simp] theorem State.setPort_units : (s.setPort p v).units = s.units := by cases p <;> rfl
@[simp] theorem State.setPort_profiles : (s.setPort p v).profiles = s.profiles := by cases p <;> rfl
@[simp] theorem State.setPort_clock : (s.setPort p v).clock = s.clock := by cases p <;> rfl
@[simp] theorem State.setPort_roster : (s.setPort p v).roster = s.roster := by cases p <;> rfl
@[simp] theorem State.setPort_stations : (s.setPort p v).stations = s.stations := by cases p <;> rfl
@[simp] theorem State.setPort_cars : (s.setPort p v).cars = s.cars := by cases p <;> rfl
@[simp] theorem State.setPort_channels : (s.setPort p v).channels = s.channels := by cases p <;> rfl
@[simp] theorem State.setPort_strike : (s.setPort p v).strike = s.strike := by cases p <;> rfl
@[simp] theorem State.setPort_loader : (s.setPort p v).loader = s.loader := by cases p <;> rfl
@[simp] theorem State.setPort_params : (s.setPort p v).params = s.params := by cases p <;> rfl
@[simp] theorem State.setPort_window : (s.setPort p v).window = s.window := by cases p <;> rfl
@[simp] theorem State.setPort_sweep : (s.setPort p v).sweep = s.sweep := by cases p <;> rfl
@[simp] theorem State.setPort_control : (s.setPort p v).control = s.control := by cases p <;> rfl
@[simp] theorem State.setPort_power : (s.setPort p v).power = s.power := by cases p <;> rfl
@[simp] theorem State.setPort_log : (s.setPort p v).log = s.log := by cases p <;> rfl
@[simp] theorem State.setPort_now : (s.setPort p v).now = s.now := by cases p <;> rfl
@[simp] theorem State.setPort_fills : (s.setPort p v).fills = s.fills := by cases p <;> rfl
@[simp] theorem State.setPort_pending : (s.setPort p v).pending = s.pending := by cases p <;> rfl
@[simp] theorem State.setPort_tenant (k : Nat) : (s.setPort p v).tenant k = s.tenant k := by cases p <;> rfl
@[simp] theorem State.setPort_unit (k : Nat) : (s.setPort p v).unit k = s.unit k := by cases p <;> rfl
@[simp] theorem State.setPort_profile (k : Nat) : (s.setPort p v).profile k = s.profile k := by cases p <;> rfl
@[simp] theorem State.setPort_station (k : Nat) : (s.setPort p v).station k = s.station k := by cases p <;> rfl
@[simp] theorem State.setPort_car (k : Nat) : (s.setPort p v).car k = s.car k := by cases p <;> rfl
@[simp] theorem State.setPort_channel (k : Nat) : (s.setPort p v).channel k = s.channel k := by cases p <;> rfl
@[simp] theorem State.setPort_param (k : Nat) : (s.setPort p v).param k = s.param k := by cases p <;> rfl
@[simp] theorem State.setPort_running : (s.setPort p v).running = s.running := by cases p <;> rfl
@[simp] theorem State.setPort_presence (k : Nat) : (s.setPort p v).presence k = s.presence k := by cases p <;> rfl
@[simp] theorem State.setPort_isPresent (k : Nat) : (s.setPort p v).isPresent k = s.isPresent k := by cases p <;> rfl
@[simp] theorem State.setPort_port_same : (s.setPort p v).port p = v := by cases p <;> rfl
theorem State.setPort_port_other (q : Port) (h : q ≠ p) : (s.setPort p v).port q = s.port q := by
  cases p <;> cases q <;> first | rfl | exact absurd rfl h
@[simp] theorem State.setPort_setPort (w : PortState) : (s.setPort p v).setPort p w = s.setPort p w := by cases p <;> rfl
end

end Sys2Proof.Machine
end

