-- ==== Sys2Proof/Laws/Table.lean ====
section
/-! SUPPORT. Collections numbered by index: reading after writing, writing twice, and the canonical form (assumption log 17). -/

namespace Sys2Proof.Machine

variable {α : Type}

theorem Table.get_erase_same (d : α) (t : List (Nat × α)) (i : Nat) : Table.get d (Table.erase t i) i = d := by
  induction t with
  | nil => rfl
  | cons e rest ih =>
    by_cases h : e.1 = i
    · simpa [Table.erase, h] using ih
    · simpa [Table.erase, h, Table.get] using ih

theorem Table.get_erase_other (d : α) (t : List (Nat × α)) {i j : Nat} (h : j ≠ i) :
    Table.get d (Table.erase t i) j = Table.get d t j := by
  induction t with
  | nil => rfl
  | cons e rest ih =>
    by_cases hi : e.1 = i
    · have hj : e.1 ≠ j := fun hj => h (hj.symm.trans hi)
      simpa [Table.erase, hi, Table.get, hi ▸ hj] using ih
    · have ih' : Table.get d (List.filter (fun e => e.1 != i) rest) j = Table.get d rest j := ih
      simp [Table.erase, hi, Table.get, ih']

theorem Table.get_insert_same (d v : α) (t : List (Nat × α)) (i : Nat) (h : ∀ e ∈ t, e.1 ≠ i) :
    Table.get d (Table.insert i v t) i = v := by
  induction t with
  | nil => simp [Table.insert, Table.get]
  | cons e rest ih =>
    by_cases hi : i < e.1
    · simp [Table.insert, hi, Table.get]
    · have := ih fun e he => h e (List.mem_cons_of_mem _ he)
      simp [Table.insert, hi, Table.get, h e List.mem_cons_self, this]

theorem Table.get_insert_other (d v : α) (t : List (Nat × α)) {i j : Nat} (h : j ≠ i) :
    Table.get d (Table.insert i v t) j = Table.get d t j := by
  induction t with
  | nil => simp [Table.insert, Table.get, h.symm]
  | cons e rest ih =>
    by_cases hi : i < e.1
    · simp [Table.insert, hi, Table.get, h.symm]
    · simp [Table.insert, hi, Table.get, ih]

theorem Table.mem_erase_ne {t : List (Nat × α)} {i : Nat} : ∀ e ∈ Table.erase t i, e.1 ≠ i := by
  simp [Table.erase]

theorem Table.erase_erase (t : List (Nat × α)) (i : Nat) : Table.erase (Table.erase t i) i = Table.erase t i := by
  simp [Table.erase]

theorem Table.erase_insert (v : α) (t : List (Nat × α)) (i : Nat) :
    Table.erase (Table.insert i v t) i = Table.erase t i := by
  induction t with
  | nil => simp [Table.erase, Table.insert]
  | cons e rest ih =>
    have ih' : List.filter (fun e => e.1 != i) (Table.insert i v rest) = List.filter (fun e => e.1 != i) rest := ih
    by_cases hi : i < e.1
    · simp [Table.insert, hi, Table.erase]
    · simp [Table.insert, hi, Table.erase, List.filter_cons, ih']

section
variable [DecidableEq α]

/-- Reading what was written. -/
theorem Table.get_set_same (d v : α) (t : List (Nat × α)) (i : Nat) : Table.get d (Table.set d t i v) i = v := by
  by_cases h : v = d
  · subst h; simp [Table.set, Table.get_erase_same]
  · simp [Table.set, h, Table.get_insert_same d v _ i Table.mem_erase_ne]

/-- A write leaves every other index alone. -/
theorem Table.get_set_other (d v : α) (t : List (Nat × α)) {i j : Nat} (h : j ≠ i) :
    Table.get d (Table.set d t i v) j = Table.get d t j := by
  by_cases hv : v = d
  · simp [Table.set, hv, Table.get_erase_other d t h]
  · simp [Table.set, hv, Table.get_insert_other d v _ h, Table.get_erase_other d t h]

theorem Table.get_set (d v : α) (t : List (Nat × α)) (i j : Nat) :
    Table.get d (Table.set d t i v) j = if j = i then v else Table.get d t j := by
  by_cases h : j = i
  · simp [h, Table.get_set_same]
  · simp [h, Table.get_set_other d v t h]

/-- The later of two writes at one index stands. -/
theorem Table.set_set (d v w : α) (t : List (Nat × α)) (i : Nat) :
    Table.set d (Table.set d t i v) i w = Table.set d t i w := by
  have : Table.erase (Table.set d t i v) i = Table.erase t i := by
    by_cases hv : v = d <;> simp [Table.set, hv, Table.erase_insert, Table.erase_erase]
  rw [Table.set, this, ← Table.set]

/-! ### Canonical form -/

theorem Table.wf_iff (d : α) (t : List (Nat × α)) :
    Table.wf d t = true ↔ t.Pairwise (fun a b => a.1 < b.1) ∧ ∀ e ∈ t, e.2 ≠ d := by
  simp [Table.wf]

theorem Table.wf_nil (d : α) : Table.wf d ([] : List (Nat × α)) = true := by simp [Table.wf]

theorem Table.wf_erase (d : α) {t : List (Nat × α)} (i : Nat) (h : Table.wf d t = true) :
    Table.wf d (Table.erase t i) = true := by
  rw [Table.wf_iff] at h ⊢
  exact ⟨h.1.filter _, fun e he => h.2 e (List.mem_of_mem_filter he)⟩

omit [DecidableEq α] in
theorem Table.mem_insert {i : Nat} {v : α} {t : List (Nat × α)} {e : Nat × α} :
    e ∈ Table.insert i v t ↔ e = (i, v) ∨ e ∈ t := by
  induction t with
  | nil => simp [Table.insert]
  | cons a rest ih =>
    by_cases hi : i < a.1
    · simp [Table.insert, hi]
    · simp only [Table.insert, hi, if_false, List.mem_cons, ih]; tauto

omit [DecidableEq α] in
theorem Table.pairwise_insert {i : Nat} {v : α} {t : List (Nat × α)} (h : t.Pairwise fun a b => a.1 < b.1)
    (hi : ∀ e ∈ t, e.1 ≠ i) : (Table.insert i v t).Pairwise fun a b => a.1 < b.1 := by
  induction t with
  | nil => simp [Table.insert]
  | cons a rest ih =>
    rw [List.pairwise_cons] at h
    by_cases hlt : i < a.1
    · simp only [Table.insert, hlt, if_true, List.pairwise_cons, List.mem_cons]
      exact ⟨by rintro b (rfl | hb); exacts [hlt, hlt.trans (h.1 b hb)], h.1, h.2⟩
    · simp only [Table.insert, hlt, if_false, List.pairwise_cons, Table.mem_insert]
      have ha : a.1 < i := by have := hi a List.mem_cons_self; omega
      refine ⟨?_, ih h.2 fun e he => hi e (List.mem_cons_of_mem _ he)⟩
      rintro b (rfl | hb)
      exacts [ha, h.1 b hb]

/-- Every write keeps the canonical form. -/
theorem Table.wf_set (d v : α) {t : List (Nat × α)} (i : Nat) (h : Table.wf d t = true) :
    Table.wf d (Table.set d t i v) = true := by
  have he := Table.wf_erase d i h
  by_cases hv : v = d
  · simpa [Table.set, hv] using he
  · rw [Table.wf_iff] at he
    simp only [Table.set, hv, if_false]
    rw [Table.wf_iff]
    refine ⟨Table.pairwise_insert he.1 Table.mem_erase_ne, fun e hm => ?_⟩
    rcases Table.mem_insert.1 hm with rfl | hm
    exacts [hv, he.2 e hm]

end

/-! ### The state's collections -/

variable (s : State)

theorem State.setTenant_tenant (i : Nat) (r : TenantRecord) (j : Nat) :
    (s.setTenant i r).tenant j = if j = i then r else s.tenant j := Table.get_set _ _ _ _ _
theorem State.setUnit_unit (u : Nat) (r : UnitRecord) (j : Nat) :
    (s.setUnit u r).unit j = if j = u then r else s.unit j := Table.get_set _ _ _ _ _
theorem State.setProfile_profile (i : Nat) (r : ProfileRecord) (j : Nat) :
    (s.setProfile i r).profile j = if j = i then r else s.profile j := Table.get_set _ _ _ _ _
theorem State.setStation_station (n : Nat) (r : StationSlot) (j : Nat) :
    (s.setStation n r).station j = if j = n then r else s.station j := Table.get_set _ _ _ _ _
theorem State.setCar_car (n : Nat) (r : CarSlot) (j : Nat) :
    (s.setCar n r).car j = if j = n then r else s.car j := Table.get_set _ _ _ _ _
theorem State.setChannel_channel (c : Nat) (r : Channel) (j : Nat) :
    (s.setChannel c r).channel j = if j = c then r else s.channel j := Table.get_set _ _ _ _ _
theorem State.setParam_param (w : Nat) (v : Word) (j : Nat) :
    (s.setParam w v).param j = if j = w then v else s.param j := Table.get_set _ _ _ _ _

@[simp] theorem State.setTenant_tenant_same (i : Nat) (r : TenantRecord) : (s.setTenant i r).tenant i = r :=
  Table.get_set_same _ _ _ _
@[simp] theorem State.setUnit_unit_same (u : Nat) (r : UnitRecord) : (s.setUnit u r).unit u = r := Table.get_set_same _ _ _ _
@[simp] theorem State.setProfile_profile_same (i : Nat) (r : ProfileRecord) : (s.setProfile i r).profile i = r :=
  Table.get_set_same _ _ _ _
@[simp] theorem State.setStation_station_same (n : Nat) (r : StationSlot) : (s.setStation n r).station n = r :=
  Table.get_set_same _ _ _ _
@[simp] theorem State.setCar_car_same (n : Nat) (r : CarSlot) : (s.setCar n r).car n = r := Table.get_set_same _ _ _ _
@[simp] theorem State.setChannel_channel_same (c : Nat) (r : Channel) : (s.setChannel c r).channel c = r :=
  Table.get_set_same _ _ _ _
@[simp] theorem State.setParam_param_same (w : Nat) (v : Word) : (s.setParam w v).param w = v := Table.get_set_same _ _ _ _

@[simp] theorem State.setTenant_setTenant (i : Nat) (r q : TenantRecord) :
    (s.setTenant i r).setTenant i q = s.setTenant i q := by simp [State.setTenant, Table.set_set]
@[simp] theorem State.setUnit_setUnit (u : Nat) (r q : UnitRecord) : (s.setUnit u r).setUnit u q = s.setUnit u q := by
  simp [State.setUnit, Table.set_set]
@[simp] theorem State.setStation_setStation (n : Nat) (r q : StationSlot) :
    (s.setStation n r).setStation n q = s.setStation n q := by simp [State.setStation, Table.set_set]
@[simp] theorem State.setCar_setCar (n : Nat) (r q : CarSlot) : (s.setCar n r).setCar n q = s.setCar n q := by
  simp [State.setCar, Table.set_set]
@[simp] theorem State.setChannel_setChannel (c : Nat) (r q : Channel) :
    (s.setChannel c r).setChannel c q = s.setChannel c q := by simp [State.setChannel, Table.set_set]

end Sys2Proof.Machine
end

