-- ==== Sys2Proof/Laws/Ops.lean ====
section
/-! SUPPORT. The shared operations, each said once: ordered checks, appending, folding over numbered items, and the canonical
form that every write keeps (assumption log 17). -/

namespace Sys2Proof.Machine

/-! ### Ordered checks -/

section
variable {β : Type}

@[simp] theorem firstHolding_nil : firstHolding ([] : List (Bool × β)) = none := rfl
@[simp] theorem firstHolding_cons (b : Bool) (x : β) (rest : List (Bool × β)) :
    firstHolding ((b, x) :: rest) = if b then some x else firstHolding rest := rfl

/-- No check fails exactly when none of the conditions holds. -/
theorem firstHolding_eq_none {cs : List (Bool × β)} : firstHolding cs = none ↔ ∀ c ∈ cs, c.1 = false := by
  induction cs with
  | nil => simp
  | cons c rest ih => rcases c with ⟨b, x⟩; cases b <;> simp [ih]

end

/-- A command's answer: its first failing check with the state untouched, or OK with its effect. -/
theorem answer_eq (checks : List (Bool × ResultCode)) (s effect : State) :
    answer checks s effect =
      match firstHolding checks with
      | some r => (r, s)
      | none => (.ok, effect) := rfl

@[simp] theorem answer_nil (s effect : State) : answer [] s effect = (.ok, effect) := rfl
@[simp] theorem answer_cons (b : Bool) (r : ResultCode) (rest : List (Bool × ResultCode)) (s effect : State) :
    answer ((b, r) :: rest) s effect = if b then (r, s) else answer rest s effect := by cases b <;> rfl

/-- What an answer can be: a refusal that leaves the state, or OK with the effect. -/
theorem answer_cases (checks : List (Bool × ResultCode)) (s effect : State) :
    (answer checks s effect).2 = s ∨ answer checks s effect = (.ok, effect) := by
  unfold answer; split <;> simp

/-! ### The log -/

/-- Appending changes the log alone. -/
theorem State.append_eq (s : State) (e : Event) : s.append e = { s with log := s.log.append s.clock.minute e } := rfl

@[simp] theorem State.logged_nil (s : State) : s.logged [] = s := rfl
@[simp] theorem State.logged_cons (s : State) (e : Event) (es : List Event) :
    s.logged (e :: es) = (s.append e).logged es := rfl
theorem State.logged_append (s : State) (es fs : List Event) : s.logged (es ++ fs) = (s.logged es).logged fs :=
  List.foldl_append

/-- Records appended one after another change the log alone. -/
theorem State.logged_frame (es : List Event) (s : State) : s.logged es = { s with log := (s.logged es).log } := by
  induction es generalizing s with
  | nil => rfl
  | cons e es ih => rw [State.logged_cons, ih (s.append e)]; rfl

/-- What a run of appends makes of the log (R165): the new records follow the old, and those discarded are missing at the head. -/
theorem Log.appends_eq (g : Log) (es : List (Nat × Event)) :
    let h := es.foldl (fun g e => g.append e.1 e.2) g
    ∃ new, new.map (fun r => (r.minute, r.event)) = es ∧ g.discards ≤ h.discards ∧ h.discards - g.discards ≤ es.length ∧
      h.records = (g.records ++ new).drop (h.discards - g.discards) ∧
      (g.records.length ≤ 512 → h.discards - g.discards = g.records.length + es.length - 512) := by
  induction es using List.reverseRecOn with
  | nil => exact ⟨[], rfl, Nat.le_refl _, by simp, by simp, fun h => by simpa using (Nat.sub_eq_zero_of_le h).symm⟩
  | append_singleton es e ih =>
    obtain ⟨new, h1, h2, h0, h3, h4⟩ := ih
    simp only [List.foldl_append, List.foldl_cons, List.foldl_nil]
    generalize es.foldl (fun g e => Log.append g e.1 e.2) g = h at *
    have hn : new.length = es.length := by rw [← h1, List.length_map]
    have hl : h.records.length = g.records.length + es.length - (h.discards - g.discards) := by
      rw [h3, List.length_drop, List.length_append, hn]
    let r : EventRecord := { seq := h.next, minute := e.1, gap := decide (512 ≤ h.records.length), event := e.2 }
    refine ⟨new ++ [r], by simp [h1, r], ?_, ?_, ?_, fun h5 => ?_⟩
    · simp only [Log.append]; split_ifs <;> omega
    · simp only [Log.append, List.length_append, List.length_singleton]; split_ifs <;> omega
    · by_cases hf : 512 ≤ h.records.length
      · have hd : (h.append e.1 e.2).discards - g.discards = h.discards - g.discards + 1 := by
          simp only [Log.append, Config.logCapacity, hf, decide_true, if_true]; omega
        rw [hd, ← List.append_assoc, List.drop_append_of_le_length (by rw [List.length_append, hn]; omega), ← List.drop_drop,
          ← h3]
        simp [Log.append, Config.logCapacity, hf, r]
      · have hd : (h.append e.1 e.2).discards = h.discards := by simp [Log.append, Config.logCapacity, hf]
        rw [hd, ← List.append_assoc]
        have hle : h.discards - g.discards ≤ (g.records ++ new).length := by
          rw [List.length_append, hn]; omega
        rw [List.drop_append_of_le_length hle, ← h3]
        simp [Log.append, Config.logCapacity, hf, r]
    · have h6 := h4 h5
      have hd : (h.append e.1 e.2).discards = if 512 ≤ h.records.length then h.discards + 1 else h.discards := by
        simp [Log.append, Config.logCapacity]
      rw [hd, List.length_append, List.length_singleton]
      clear hd h1 h3 r h4
      generalize g.records.length = a at *; generalize es.length = b at *; generalize h.records.length = c at *
      generalize 512 = q at *
      split_ifs <;> omega

/-! ### Folds over numbered items -/

@[simp] theorem State.forEach_zero (f : Nat → State → State) (s : State) : s.forEach 0 f = s := rfl
theorem State.forEach_succ (n : Nat) (f : Nat → State → State) (s : State) :
    s.forEach (n + 1) f = f n (s.forEach n f) := by simp [State.forEach, List.range_succ]

/-- What every application keeps, the whole fold keeps. -/
theorem State.forEach_keeps {p : State → Prop} {f : Nat → State → State} (h : ∀ i s, p s → p (f i s)) (n : Nat) {s : State}
    (hs : p s) : p (s.forEach n f) := by
  induction n with
  | zero => exact hs
  | succ n ih => rw [State.forEach_succ]; exact h n _ ih

/-- The same of a fold over a list. -/
theorem foldl_keeps {β : Type} {p : State → Prop} {f : State → β → State} (h : ∀ s b, p s → p (f s b)) (l : List β)
    {s : State} (hs : p s) : p (l.foldl f s) := by
  induction l generalizing s with
  | nil => exact hs
  | cons b l ih => exact ih (h s b hs)

/-! ### Canonical form -/

theorem State.setTenant_canonical {s : State} (h : s.canonical) (i : Nat) (r : TenantRecord) : (s.setTenant i r).canonical :=
  ⟨Table.wf_set _ _ _ h.1, h.2⟩
theorem State.setUnit_canonical {s : State} (h : s.canonical) (i : Nat) (r : UnitRecord) : (s.setUnit i r).canonical :=
  ⟨h.1, Table.wf_set _ _ _ h.2.1, h.2.2⟩
theorem State.setProfile_canonical {s : State} (h : s.canonical) (i : Nat) (r : ProfileRecord) :
    (s.setProfile i r).canonical := ⟨h.1, h.2.1, Table.wf_set _ _ _ h.2.2.1, h.2.2.2⟩
theorem State.setStation_canonical {s : State} (h : s.canonical) (i : Nat) (r : StationSlot) :
    (s.setStation i r).canonical := ⟨h.1, h.2.1, h.2.2.1, Table.wf_set _ _ _ h.2.2.2.1, h.2.2.2.2⟩
theorem State.setCar_canonical {s : State} (h : s.canonical) (i : Nat) (r : CarSlot) : (s.setCar i r).canonical :=
  ⟨h.1, h.2.1, h.2.2.1, h.2.2.2.1, Table.wf_set _ _ _ h.2.2.2.2.1, h.2.2.2.2.2⟩
theorem State.setChannel_canonical {s : State} (h : s.canonical) (i : Nat) (r : Channel) : (s.setChannel i r).canonical :=
  ⟨h.1, h.2.1, h.2.2.1, h.2.2.2.1, h.2.2.2.2.1, Table.wf_set _ _ _ h.2.2.2.2.2.1, h.2.2.2.2.2.2⟩
theorem State.setParam_canonical {s : State} (h : s.canonical) (i : Nat) (v : Word) : (s.setParam i v).canonical :=
  ⟨h.1, h.2.1, h.2.2.1, h.2.2.2.1, h.2.2.2.2.1, h.2.2.2.2.2.1, Table.wf_set _ _ _ h.2.2.2.2.2.2⟩
theorem State.setPort_canonical {s : State} (h : s.canonical) (p : Port) (x : PortState) : (s.setPort p x).canonical := by
  cases p <;> exact h
theorem State.append_canonical {s : State} (h : s.canonical) (e : Event) : (s.append e).canonical := h

/-- The collections right after reset. -/
theorem State.reset_canonical : State.reset.canonical := by
  refine ⟨?_, ?_, ?_, ?_, ?_, ?_, ?_⟩ <;> exact Table.wf_nil _

end Sys2Proof.Machine
end

