-- ==== Sys2Proof/Laws/Blocks.lean ====
section
/-! SUPPORT. The shared operations of the blocks, each said once: unit arming, releases and the unlocked condition, the end of a
passage, the engine's next work, and the tenant of a request. -/

namespace Sys2Proof.Machine

/-! ### Unit arming -/

theorem State.setArm_eq (s : State) (u : Nat) (a : ArmState) : s.setArm u a = s.setUnit u ((s.unit u).toArm a) := by
  unfold State.setArm UnitRecord.toArm
  congr 2

theorem State.raiseAlarm_eq (s : State) (u : Nat) (c : AlarmCause) :
    s.raiseAlarm u c = (s.setUnit u { s.unit u with arm := .alarm c }).append (.unitAlarm c u (s.unit u).tenant) := by
  rw [State.raiseAlarm, State.setArm_eq]
  simp [UnitRecord.toArm]

/-- A contact report (R107, R108). -/
theorem State.contactReport_eq (s : State) (u : Nat) (c : Contact) (hc : c ≠ .unknown) :
    s.contactReport u c =
      if (s.unit u).contact = c then s
      else if c = .opened then (s.setUnit u (s.unit u).opening).logged ((s.unit u).openingEvents u)
      else s.setUnit u { s.unit u with contact := c } := by
  unfold State.contactReport
  split_ifs with h1 h2
  · rfl
  · subst h2
    generalize hx : s.unit u = x
    unfold State.opening UnitRecord.opening UnitRecord.openingEvents
    cases ha : x.arm <;> simp [ha, State.raiseAlarm_eq]
  · rfl

/-- A fold whose steps each rewrite one unit's record, or leave a record that needs no rewriting: only units change, and each
unit of the list once. -/
theorem foldl_units {f : State → Nat → State} {g : UnitRecord → UnitRecord} {P : State → Prop}
    (hP : ∀ s us, P s → P { s with units := us }) (hg : ∀ x, g (g x) = g x) (us : List Nat)
    (hf : ∀ s u, u ∈ us → P s → f s u = s.setUnit u (g (s.unit u)) ∨ (f s u = s ∧ g (s.unit u) = s.unit u))
    (s : State) (hs : P s) :
    us.foldl f s = { s with units := (us.foldl f s).units } ∧
      ∀ v, (us.foldl f s).unit v = if v ∈ us then g (s.unit v) else s.unit v := by
  induction us generalizing s with
  | nil => exact ⟨rfl, by simp⟩
  | cons u us ih =>
    have h1 : f s u = { s with units := (f s u).units } ∧ ∀ v, (f s u).unit v = if v = u then g (s.unit v) else s.unit v := by
      rcases hf s u List.mem_cons_self hs with h | ⟨h, h'⟩
      · rw [h]; exact ⟨rfl, fun v => by rw [State.setUnit_unit]; split_ifs with hv <;> simp [hv]⟩
      · rw [h]; exact ⟨rfl, fun v => by split_ifs with hv <;> simp [hv, h']⟩
    have hs1 : P (f s u) := by rw [h1.1]; exact hP s _ hs
    obtain ⟨i1, i2⟩ := ih (fun s u hu => hf s u (List.mem_cons_of_mem _ hu)) (f s u) hs1
    rw [List.foldl_cons]
    refine ⟨?_, fun v => ?_⟩
    · rw [i1, h1.1]
    · rw [i2 v, h1.2 v]
      by_cases hv : v = u <;> by_cases hm : v ∈ us <;> simp [hv, hm, hg]

/-- The entry hand-off changes units alone, each as `unitEntered` says (R109). -/
theorem State.entryHandoff_eq (s : State) (slot : Nat) :
    s.entryHandoff slot = { s with units := (s.entryHandoff slot).units } ∧
      ∀ u, (s.entryHandoff slot).unit u = s.unitEntered slot u := by
  unfold State.entryHandoff
  split_ifs with h
  · exact ⟨rfl, fun u => by simp [State.unitEntered, h]⟩
  · obtain ⟨a, b⟩ := foldl_units (P := fun _ => True) (f := fun s u => if (s.unit u).arm = .armed then s.setArm u .disarmed else s)
      (g := fun x => if x.arm = .armed then { x with arm := .disarmed, visit := true } else x) (by simp)
      (by intro x; split_ifs <;> simp_all) (s.tenant slot).units
      (by intro s u _ _; by_cases hh : (s.unit u).arm = .armed <;> simp [hh, State.setArm]) s trivial
    refine ⟨a, fun u => ?_⟩
    rw [b u]
    by_cases hm : u ∈ (s.tenant slot).units <;> simp [State.unitEntered, h, hm]

/-! ### Channels -/

theorem State.driveOn_eq (s : State) (x : Channel) : s.driveOn x = s.driven x := rfl

/-- A release, in every state of the channel (R121, R122). -/
theorem State.release_eq (s : State) (c tenths : Nat) (h : (s.channel c).state ≠ .unlocked) :
    s.release c tenths = (s.setChannel c (s.released c tenths)).logged (releaseEvents (s.channel c) c) := by
  unfold State.release State.released releaseEvents
  cases hs : (s.channel c).state <;> simp_all <;> rfl

theorem State.release_unlocked (s : State) (c tenths : Nat) (h : (s.channel c).state = .unlocked) :
    s.release c tenths = s := by simp [State.release, h]

/-! ### Passages -/

theorem State.detach_none (s : State) (n : Nat) : s.detach n none = s := rfl

/-- A passage without a gate channel is abandoned (R84). -/
theorem State.abandonPassage_eq (s : State) (n : Nat) (p : Passage) (cause : AbandonCause) :
    s.abandonPassage n p cause =
      ((s.append (.passageAbandoned cause n p.tenant)).setStation n
        { s.station n with state := if cause = .offline then .offline else .ready }).detach n p.channel := rfl

/-- Nothing is handed on where the channel carries no passage. -/
theorem State.withCarried_none {s : State} {c : Nat} {f : Nat → Passage → State}
    (h : ∀ n p, (s.channel c).carried = some n → (s.station n).state ≠ .passage p) : s.withCarried c f = s := by
  unfold State.withCarried
  split
  · rfl
  · rename_i n hn
    split
    · rename_i p hp; exact absurd hp (h n p hn)
    · rfl

theorem State.withCarried_some {s : State} {c n : Nat} {p : Passage} {f : Nat → Passage → State}
    (hn : (s.channel c).carried = some n) (hp : (s.station n).state = .passage p) : s.withCarried c f = f n p := by
  simp [State.withCarried, hn, hp]

/-! ### The engine -/

theorem findSome_range {α : Type} {f : Nat → Option α} {n k : Nat} {a : α} (hn : n < k) (hf : f n = some a)
    (h : ∀ j < n, f j = none) : (List.range k).findSome? f = some a := by
  induction k with
  | zero => omega
  | succ k ih =>
    rw [List.range_succ, List.findSome?_append]
    by_cases hk : n < k
    · rw [ih hk]; rfl
    · have : n = k := by omega
      subst this
      have h0 : (List.range n).findSome? f = none := by
        rw [List.findSome?_eq_none_iff]; intro j hj; exact h j (List.mem_range.1 hj)
      simp [h0, hf]

theorem findSome_range_none {α : Type} {f : Nat → Option α} {k : Nat} (h : ∀ j < k, f j = none) :
    (List.range k).findSome? f = none := by
  rw [List.findSome?_eq_none_iff]; intro j hj; exact h j (List.mem_range.1 hj)

theorem State.carWork_none {s : State} {n : Nat} (h : ∀ q, (s.car n).state ≠ .pending q) : s.carWork n = none := by
  unfold State.carWork; split
  · rename_i r hr; exact absurd hr (h r)
  · rfl

theorem State.stationWork_none {s : State} {n : Nat} (h : ∀ q, (s.station n).state ≠ .pending q) : s.stationWork n = none := by
  unfold State.stationWork; split
  · rename_i r hr; exact absurd hr (h r)
  · rfl

/-- What the engine takes next (R67). -/
theorem State.nextWork_car {s : State} {n : Nat} {r : CarRequest} (h : s.nextCar n r) : s.nextWork = some (.car n r) := by
  have : (List.range Config.carCount).findSome? s.carWork = some (.car n r) :=
    findSome_range h.1 (by simp [State.carWork, h.2.1]) fun j hj => State.carWork_none (h.2.2 j hj)
  simp [State.nextWork, this]

theorem State.nextWork_station {s : State} {n : Nat} {r : Request} (h : s.nextStation n r) :
    s.nextWork = some (.station n r) := by
  have h1 : (List.range Config.carCount).findSome? s.carWork = none :=
    findSome_range_none fun j hj => State.carWork_none (h.1 j hj)
  have h2 : (List.range Config.stationCount).findSome? s.stationWork = some (.station n r) :=
    findSome_range h.2.1 (by simp [State.stationWork, h.2.2.1]) fun j hj => State.stationWork_none (h.2.2.2 j hj)
  simp [State.nextWork, h1, h2]

theorem State.nextWork_record {s : State} {r : LoadRecord} {rest : List LoadRecord} (h : s.nextRecord r rest) :
    s.nextWork = some (.record r rest) := by
  have h1 : (List.range Config.carCount).findSome? s.carWork = none :=
    findSome_range_none fun j hj => State.carWork_none (h.1 j hj)
  have h2 : (List.range Config.stationCount).findSome? s.stationWork = none :=
    findSome_range_none fun j hj => State.stationWork_none (h.2.1 j hj)
  simp [State.nextWork, h1, h2, State.recordWork, h.2.2]

/-- The tenant of a request is the one slot that holds its credential (R3, R68). -/
theorem State.tenantOf_eq {s : State} {c : Credential} {t : Option Nat} (hl : s.credentialLaw) (h : s.requestTenant c t) :
    s.tenantOf c = t := by
  unfold State.tenantOf
  cases t with
  | none =>
    rw [List.find?_eq_none]
    intro i hi
    rcases h i (List.mem_range.1 hi) with h1 | h1 <;> simp [State.holdsCredential, h1]
  | some i =>
    obtain ⟨h1, h2, h3⟩ := h
    cases hf : (List.range Config.tenantSlots).find? (s.holdsCredential c) with
    | none =>
      rw [List.find?_eq_none] at hf
      exact absurd (by simp [State.holdsCredential, h2, h3]) (hf i (List.mem_range.2 h1))
    | some j =>
      have hm := List.mem_range.1 (List.mem_of_find?_eq_some hf)
      have hj := List.find?_some hf
      simp only [State.holdsCredential, Bool.and_eq_true, bne_iff_ne, ne_eq, beq_iff_eq] at hj
      rw [hl j i hm h1 hj.1 h2 (hj.2.trans h3.symm)]

end Sys2Proof.Machine
end

