-- ==== Sys2Proof/Laws/Channels.lean ====
section
/-! SUPPORT. A change of the unlocked condition, said once: what it makes of one channel and of the passage it carries (R128 to
R130, R79), of several channels one after another, and of the SCHEDULE channels at a move of the site phase (R29, R31). -/

namespace Sys2Proof.Machine

/-- The unlocked condition reads parameters, clock and control alone (R119). -/
theorem State.unlockedCondition_congr {u b : State} (hp : u.params = b.params) (hc : u.clock = b.clock)
    (hk : u.control = b.control) (c : Nat) : u.unlockedCondition c = b.unlockedCondition c := by
  unfold State.unlockedCondition State.channelMode State.fireSecure State.modeByte State.param
  rw [hp, hc, hk]

/-- One channel after a change of the unlocked condition, with its record and the passage it carries (R128 to R130, R79). -/
def State.moveChannel (c : Nat) (u : State) : State :=
  if u.enters u c then (u.enterUnlocked c).handWindow c
  else if u.locks u c then (u.lockChannel c).handWindow c
  else if (u.channel c).state = .unlocked ∧ u.unlockedCondition c = false then u.leaveUnlocked c
  else u

/-- The record that channel `c`'s entry into UNLOCKED appends (R128, step 1). -/
def State.restoredAt (u : State) (c : Nat) : List Event :=
  if u.enters u c then
    match (u.channel c).state with
    | .forced => [.gateRestored .forced c]
    | .propped => [.gateRestored .propped c]
    | _ => []
  else []

/-- A slot whose RELEASE-governed passage, if it holds one, becomes WINDOW-governed (R79). -/
def StationSlot.toWindow (u : State) (x : StationSlot) : StationSlot :=
  match x.state with
  | .passage p => if p.governor = .release then { x with state := .passage { p with governor := u.windowEnd } } else x
  | _ => x

/-- What a channel hands on at an entry into UNLOCKED or a change to LOCKED (R79). -/
theorem State.handWindow_eq (u : State) (c : Nat) :
    u.handWindow c = { u with stations := (u.handWindow c).stations } ∧
      ∀ n, (u.handWindow c).station n = if (u.channel c).carried = some n then (u.station n).toWindow u else u.station n := by
  unfold State.handWindow State.withCarried
  cases hc : (u.channel c).carried with
  | none => exact ⟨rfl, by simp⟩
  | some m =>
    simp only
    cases hs : (u.station m).state with
    | passage p =>
      refine ⟨rfl, fun n => ?_⟩
      by_cases hn : n = m
      · subst hn
        simp only [State.setPassage, State.setStation_station_same, if_true, StationSlot.toWindow, hs, State.toWindow]
        split_ifs with hg
        · rfl
        · show ({ verdict := _, state := SlotState.passage p } : StationSlot) = _
          rw [← hs]
      · have : some m ≠ some n := fun h => hn (Option.some.inj h).symm
        simp [State.setPassage, State.setStation_station, hn, this]
    | _ =>
      refine ⟨rfl, fun n => ?_⟩
      split_ifs with hn
      · cases hn; simp [StationSlot.toWindow, hs]
      · rfl

/-- One channel's move changes that channel, the passage it carries and the log alone. -/
theorem State.moveChannel_eq (c : Nat) (u : State) :
    let v := u.moveChannel c
    v = { u with channels := v.channels, stations := v.stations, log := v.log } ∧
      (∀ d, v.channel d = if d = c then u.channelMoved u c else u.channel d) ∧
      (∀ n, v.station n =
        if (u.enters u c || u.locks u c) = true ∧ (u.channel c).carried = some n then (u.station n).toWindow u else u.station n) ∧
      v.log = (u.logged (u.restoredAt c)).log := by
  intro v
  by_cases he : u.enters u c
  · have hv : v = (u.enterUnlocked c).handWindow c := by simp only [v, State.moveChannel, he, if_true]
    obtain ⟨h1, h2⟩ := (u.enterUnlocked c).handWindow_eq c
    have hx : u.enterUnlocked c = { u with channels := (u.enterUnlocked c).channels, log := (u.logged (u.restoredAt c)).log } ∧
        ∀ d, (u.enterUnlocked c).channel d = if d = c then u.channelMoved u c else u.channel d := by
      unfold State.enterUnlocked State.restoredAt State.channelMoved
      simp only [he, if_true]
      cases hs : (u.channel c).state <;>
        exact ⟨rfl, fun d => by simp only [ChannelState.restored]; rw [State.setChannel_channel]; rfl⟩
    have hw : ∀ x, StationSlot.toWindow (u.enterUnlocked c) x = StationSlot.toWindow u x := by
      intro x; rw [hx.1]; rfl
    have hcar : ((u.enterUnlocked c).channel c).carried = (u.channel c).carried := by
      rw [hx.2 c]; simp only [if_true, State.channelMoved, he]; unfold State.driven; split_ifs <;> rfl
    refine ⟨?_, ?_, ?_, ?_⟩
    · rw [hv, h1, hx.1]
    · intro d; rw [hv, h1]; exact hx.2 d
    · intro n; rw [hv, h2 n, hcar, hw]; simp only [he, Bool.true_or, true_and]
      rw [show (u.enterUnlocked c).station n = u.station n by rw [hx.1]; rfl]
    · rw [hv, h1]; show (u.enterUnlocked c).log = _; rw [hx.1]
  · by_cases hl : u.locks u c
    · have hv : v = (u.lockChannel c).handWindow c := by simp [v, State.moveChannel, he, hl]
      obtain ⟨h1, h2⟩ := (u.lockChannel c).handWindow_eq c
      have hch : ∀ d, (u.lockChannel c).channel d = if d = c then u.channelMoved u c else u.channel d := by
        intro d; unfold State.lockChannel State.channelMoved; rw [State.setChannel_channel]
        simp only [he, hl, if_true, Bool.false_eq_true, if_false]; rfl
      have hcar : ((u.lockChannel c).channel c).carried = (u.channel c).carried := by
        rw [hch c]; simp [State.channelMoved, he, hl]
      refine ⟨?_, ?_, ?_, ?_⟩
      · rw [hv, h1]; rfl
      · intro d; rw [hv, h1]; exact hch d
      · intro n; rw [hv, h2 n, hcar]; simp [hl]; rfl
      · rw [hv, h1]; simp [State.restoredAt, he, State.lockChannel]
    · by_cases hu : (u.channel c).state = .unlocked ∧ u.unlockedCondition c = false
      · have hv : v = u.leaveUnlocked c := by simp only [v, State.moveChannel, he, hl, hu]; rfl
        refine ⟨by rw [hv]; rfl, fun d => ?_, fun n => ?_, ?_⟩
        · rw [hv]; unfold State.leaveUnlocked State.channelMoved; rw [State.setChannel_channel]
          simp only [he, hl, hu]; rfl
        · rw [hv]; simp [he, hl]; rfl
        · rw [hv]; simp [State.restoredAt, he, State.leaveUnlocked]
      · have hv : v = u := by simp only [v, State.moveChannel, he, hl, hu]; rfl
        refine ⟨by rw [hv], fun d => ?_, fun n => ?_, ?_⟩
        · rw [hv]; unfold State.channelMoved; simp only [he, hl, hu, Bool.false_eq_true, if_false]
          split_ifs with h
          · rw [h]
          · rfl
        · rw [hv]; simp [he, hl]
        · rw [hv]; simp [State.restoredAt, he]

/-- The moves of the channels of a list, one after another, in terms of the state before the first. -/
theorem State.moves_eq (b : State) (cs : List Nat) (hn : cs.Nodup) :
    let v := cs.foldl (fun u c => u.moveChannel c) b
    v = { b with channels := v.channels, stations := v.stations, log := v.log } ∧
      (∀ d, v.channel d = if d ∈ cs then b.channelMoved b d else b.channel d) ∧
      (∀ n, v.station n =
        if ∃ c ∈ cs, (b.enters b c || b.locks b c) = true ∧ (b.channel c).carried = some n then (b.station n).toWindow b
        else b.station n) ∧
      v.log = (b.logged (cs.flatMap b.restoredAt)).log := by
  induction cs using List.reverseRecOn with
  | nil => exact ⟨rfl, by simp, by simp, rfl⟩
  | append_singleton cs c ih =>
    have hc : c ∉ cs := by
      intro h; exact (List.nodup_append.1 hn).2.2 c h c (by simp) rfl
    obtain ⟨i1, i2, i3, i4⟩ := ih (List.nodup_append.1 hn).1
    intro v
    have hv : v = (cs.foldl (fun u c => u.moveChannel c) b).moveChannel c := by simp [v]
    generalize cs.foldl (fun u c => u.moveChannel c) b = u at *
    obtain ⟨j1, j2, j3, j4⟩ := u.moveChannel_eq c
    rw [← hv] at j1 j2 j3 j4
    have hx : u.channel c = b.channel c := by rw [i2 c, if_neg hc]
    have hcond : u.unlockedCondition c = b.unlockedCondition c :=
      State.unlockedCondition_congr (by rw [i1]) (by rw [i1]) (by rw [i1]) c
    have hmode : u.channelMode c = b.channelMode c := by rw [i1]; rfl
    have hen : u.enters u c = b.enters b c := by simp only [State.enters, hx, hcond]
    have hlo : u.locks u c = b.locks b c := by simp only [State.locks, hx, hcond, hmode]
    have hdr : ∀ x, u.driven x = b.driven x := by intro x; rw [i1]; rfl
    have hho : u.inTime u.heldOpenTime 1000000 = b.inTime b.heldOpenTime 1000000 := by rw [i1]; rfl
    have hmv : u.channelMoved u c = b.channelMoved b c := by
      unfold State.channelMoved; simp only [hx, hen, hlo, hcond, hdr, hho]
    have htw : ∀ x, StationSlot.toWindow u x = StationSlot.toWindow b x := by intro x; rw [i1]; rfl
    have hre : u.restoredAt c = b.restoredAt c := by simp only [State.restoredAt, hx, hen]
    refine ⟨?_, fun d => ?_, fun n => ?_, ?_⟩
    · rw [j1, i1]
    · rw [j2 d, i2 d, hmv]
      by_cases hd : d = c
      · subst hd; simp
      · simp [hd]
    · rw [j3 n, hen, hlo, hx, i3 n, htw]
      have idem : ((b.station n).toWindow b).toWindow b = (b.station n).toWindow b := by
        unfold StationSlot.toWindow
        cases hs : (b.station n).state with
        | passage p => by_cases hg : p.governor = .release <;> simp [hs, hg, State.windowEnd]
        | _ => simp [hs]
      by_cases h1 : (b.enters b c || b.locks b c) = true ∧ (b.channel c).carried = some n
      · by_cases h2 : ∃ c ∈ cs, (b.enters b c || b.locks b c) = true ∧ (b.channel c).carried = some n
        · have : ∃ d ∈ cs ++ [c], (b.enters b d || b.locks b d) = true ∧ (b.channel d).carried = some n := ⟨c, by simp, h1⟩
          rw [if_pos h1, if_pos h2, if_pos this, idem]
        · have : ∃ d ∈ cs ++ [c], (b.enters b d || b.locks b d) = true ∧ (b.channel d).carried = some n := ⟨c, by simp, h1⟩
          rw [if_pos h1, if_neg h2, if_pos this]
      · by_cases h2 : ∃ c ∈ cs, (b.enters b c || b.locks b c) = true ∧ (b.channel c).carried = some n
        · have : ∃ d ∈ cs ++ [c], (b.enters b d || b.locks b d) = true ∧ (b.channel d).carried = some n := by
            obtain ⟨d, hd, h⟩ := h2; exact ⟨d, by simp [hd], h⟩
          rw [if_neg h1, if_pos h2, if_pos this]
        · have : ¬∃ d ∈ cs ++ [c], (b.enters b d || b.locks b d) = true ∧ (b.channel d).carried = some n := by
            rintro ⟨d, hd, h⟩
            rcases List.mem_append.1 hd with hd | hd
            · exact h2 ⟨d, hd, h⟩
            · rw [List.mem_singleton.1 hd] at h; exact h1 h
          rw [if_neg h1, if_neg h2, if_neg this]
    · rw [j4, hre, List.flatMap_append, State.logged_append]
      have : ∀ es, (u.logged es).log = (({ b with log := u.log } : State).logged es).log := by
        intro es; rw [i1]
        generalize u.channels = x; generalize u.stations = y; generalize u.log = z
        clear * -
        induction es generalizing z with
        | nil => rfl
        | cons e es ih => exact ih (z.append b.clock.minute e)
      rw [this, i4, ← State.logged_frame]
      simp

/-- The moves leave parameters and clock. -/
theorem State.moves_params (b : State) (cs : List Nat) :
    (cs.foldl (fun u c => u.moveChannel c) b).params = b.params ∧
      (cs.foldl (fun u c => u.moveChannel c) b).clock = b.clock := by
  induction cs generalizing b with
  | nil => exact ⟨rfl, rfl⟩
  | cons c cs ih =>
    have h := (b.moveChannel_eq c).1
    exact ⟨(ih _).1.trans (by show (b.moveChannel c).params = _; rw [h]), (ih _).2.trans (by show (b.moveChannel c).clock = _; rw [h])⟩

/-- R128, R129. -/
theorem State.syncChannel_eq (u : State) (c : Nat) (h : u.locks u c = false) : u.syncChannel c = u.moveChannel c := by
  unfold State.syncChannel State.moveChannel
  simp only [h, Bool.false_eq_true, if_false, State.enters]
  by_cases h1 : u.unlockedCondition c = true <;> by_cases h2 : (u.channel c).state = .unlocked <;> simp [h1, h2]

/-- A mode byte that a PARAM WRITE has changed moves its channel (R128 to R130). -/
theorem State.modeWritten_eq (u : State) (c : Nat) (old : Byte) (h : u.modeByte c ≠ old) :
    u.modeWritten c old = u.moveChannel c := by
  unfold State.modeWritten State.syncChannel State.moveChannel State.enters State.locks
  by_cases h1 : u.unlockedCondition c = true <;> by_cases h2 : (u.channel c).state = .unlocked <;>
    by_cases h3 : u.channelMode c = .locked <;> simp [h, h1, h2, h3]

theorem State.modeWritten_same (u : State) (c : Nat) (old : Byte) (h : u.modeByte c = old) : u.modeWritten c old = u := by
  simp [State.modeWritten, h]

/-- R29, R31, R160: the SCHEDULE channels follow the site phase. -/
theorem State.channelsFollowPhase_eq (b : State) :
    b.channelsFollowPhase = ((List.range 16).filter b.followsPhase).foldl (fun u c => u.moveChannel c) b := by
  unfold State.channelsFollowPhase
  by_cases hr : b.power.rst = true
  · have : b.followsPhase = fun _ => false := by funext c; simp [State.followsPhase, hr]
    simp [hr, this]
  · rw [if_neg hr]
    have hf : b.followsPhase = fun c => b.channelMode c == .schedule := by funext c; simp [State.followsPhase, hr]
    rw [hf]
    unfold State.forEach
    show (List.range 16).foldl _ _ = _
    generalize List.range 16 = cs
    induction cs using List.reverseRecOn with
    | nil => rfl
    | append_singleton cs c ih =>
      rw [List.foldl_append, ih, List.filter_append, List.foldl_append]
      have hp := (b.moves_params (cs.filter fun c => b.channelMode c == .schedule)).1
      generalize (cs.filter fun c => b.channelMode c == .schedule).foldl (fun u c => u.moveChannel c) b = u at *
      have hm : u.channelMode c = b.channelMode c := by unfold State.channelMode State.modeByte State.param; rw [hp]
      by_cases h : b.channelMode c = .schedule
      · simp [h, State.followPhase, hm, State.syncChannel_eq, State.locks]
      · simp [h, State.followPhase, hm]

/-- The records of the channels reached, as those of a base state that agrees on the channels. -/
theorem State.restoredEvents_eq (s s1 b : State) (reached : Nat → Bool)
    (he : ∀ c, s.enters s1 c = b.enters b c) (hc : ∀ c, b.channel c = s.channel c) :
    s.restoredEvents s1 reached = ((List.range 16).filter reached).flatMap b.restoredAt := by
  unfold State.restoredEvents
  generalize List.range 16 = cs
  induction cs with
  | nil => rfl
  | cons c cs ih =>
    rw [List.filterMap_cons, List.filter_cons]
    by_cases hr : reached c = true
    · simp only [hr, true_and, if_true, List.flatMap_cons, State.restoredAt, he, hc]
      by_cases h : b.enters b c = true
      · simp only [h, if_true]
        cases (s.channel c).state <;> simp only [List.cons_append, List.nil_append, List.cons.injEq, true_and] <;>
          (simp only [he] at ih; exact ih)
      · simp only [h, if_false, List.nil_append, Bool.false_eq_true]; simp only [he] at ih; exact ih
    · simp only [hr, false_and, if_false, Bool.false_eq_true]; exact ih

/-- The slot after the hand-offs, by a base state that agrees on channels and slot. -/
theorem State.handedWindow_eq (s b : State) (handed reached : Nat → Bool) (n : Nat)
    (hc : ∀ c, b.channel c = s.channel c) (hs : b.station n = s.station n) (hw : b.windowEnd = .window (s.now + s.passageWindow * 1000000))
    (hh : ∀ c, handed c = (reached c && (b.enters b c || b.locks b c))) :
    s.handedWindow handed n =
      if ∃ c ∈ (List.range 16).filter reached, (b.enters b c || b.locks b c) = true ∧ (b.channel c).carried = some n then
        (b.station n).toWindow b else b.station n := by
  have key : ((List.range 16).any fun c => handed c && (s.channel c).carried == some n) = true ↔
      ∃ c ∈ (List.range 16).filter reached, (b.enters b c || b.locks b c) = true ∧ (b.channel c).carried = some n := by
    simp only [List.any_eq_true, List.mem_filter, hh, hc, Bool.and_eq_true, beq_iff_eq]
    constructor
    · rintro ⟨c, h1, ⟨h2, h3⟩, h4⟩; exact ⟨c, ⟨h1, h2⟩, h3, h4⟩
    · rintro ⟨c, ⟨h1, h2⟩, h3, h4⟩; exact ⟨c, h1, ⟨h2, h3⟩, h4⟩
  unfold State.handedWindow StationSlot.toWindow
  rw [hs, hw]
  simp only [← key]
  cases (s.station n).state with
  | passage p =>
    by_cases h1 : p.governor = .release <;>
      by_cases h2 : ((List.range 16).any fun c => handed c && (s.channel c).carried == some n) = true <;> simp [h1, h2]
  | _ => simp

/-- The channel moved, by a base state that agrees on it and on the change. -/
theorem State.channelMoved_eq (s s1 b : State) (c : Nat) (he : s.enters s1 c = b.enters b c) (hl : s.locks s1 c = b.locks b c)
    (hu : s1.unlockedCondition c = b.unlockedCondition c)
    (hc : b.channel c = s.channel c) (hd : ∀ x, s.driven x = b.driven x)
    (hho : s.inTime s.heldOpenTime 1000000 = b.inTime b.heldOpenTime 1000000) : s.channelMoved s1 c = b.channelMoved b c := by
  unfold State.channelMoved; simp only [he, hl, hu, hc, hd, hho]

/-- What the hand-off of the site phase makes of `b`, which is `s` with clock, roster and log changed (R29, R31, R79, R128). -/
theorem State.phase_handed (s b : State) (hb : b = { s with clock := b.clock, roster := b.roster, log := b.log }) :
    let t := b.channelsFollowPhase
    t = { b with channels := t.channels, stations := t.stations, log := t.log } ∧ s.phaseHanded t ∧
      t.log = (b.logged (s.restoredEvents { s with clock := t.clock } s.followsPhase)).log := by
  intro t
  have ht : t = _ := b.channelsFollowPhase_eq
  have hf : b.followsPhase = s.followsPhase := by rw [hb]; rfl
  obtain ⟨h1, h2, h3, h4⟩ := b.moves_eq ((List.range 16).filter b.followsPhase) (List.nodup_range.filter _)
  rw [← ht] at h1 h2 h3 h4
  rw [hf] at h2 h3 h4
  have hclk : t.clock = b.clock := by rw [h1]
  have hch : ∀ c, b.channel c = s.channel c := fun c => by rw [hb]; rfl
  have hu : ∀ c, ({ s with clock := t.clock } : State).unlockedCondition c = b.unlockedCondition c := fun c =>
    State.unlockedCondition_congr (u := { s with clock := t.clock }) (b := b) (by rw [hb]) hclk (by rw [hb]) c
  have hm : ∀ c, ({ s with clock := t.clock } : State).channelMode c = b.channelMode c := fun c => by rw [hb]; rfl
  have he : ∀ c, s.enters { s with clock := t.clock } c = b.enters b c := fun c => by simp only [State.enters, hu, hch]
  have hl : ∀ c, s.locks { s with clock := t.clock } c = b.locks b c := fun c => by simp only [State.locks, hu, hch, hm]
  refine ⟨h1, ⟨fun c => ?_, fun n => ?_⟩, ?_⟩
  · rw [h2 c, State.channelMoved_eq s { s with clock := t.clock } b c (he c) (hl c) (hu c) (hch c)
      (fun x => by rw [hb]; rfl) (by rw [hb]; rfl), hch c]
    simp only [List.mem_filter, List.mem_range]
  · rw [h3 n, State.handedWindow_eq s b _ s.followsPhase n hch (by rw [hb]; rfl) (by rw [hb]; rfl)]
    intro c
    rw [he c]
    cases hf' : s.followsPhase c
    · rfl
    · have hs : b.channelMode c = .schedule := by
        have := hf'; simp [State.followsPhase] at this; rw [hb]; exact this.2
      have : b.locks b c = false := by simp [State.locks, hs]
      simp [this]
  · rw [h4, State.restoredEvents_eq s _ b s.followsPhase he hch]

end Sys2Proof.Machine
end

