-- ==== Sys2Proof/Laws/Clock.lean ====
section
/-! SUPPORT. The roster's and the clock's shared operations, each said once: the roster at the close event and at a closing tick
(R53, R54), and the close and open events with their hand-offs (R29, R31). -/

namespace Sys2Proof.Machine

/-- What a list of records makes of the log depends on log and minute alone (R165). -/
theorem State.logged_log (u b : State) (es : List Event) (hl : u.log = b.log) (hm : u.clock.minute = b.clock.minute) :
    (u.logged es).log = (b.logged es).log := by
  induction es generalizing u b with
  | nil => exact hl
  | cons e es ih => exact ih (u.append e) (b.append e) (by simp [State.append_eq, hl, hm]) hm

theorem State.setRoster_logged_log (s : State) (r : List Presence) (es : List Event) :
    ((s.setRoster r).logged es).log = (s.logged es).log := State.logged_log _ _ es rfl rfl

theorem State.appendOverstays_eq (s : State) (ps : List Presence) :
    s.appendOverstays ps = s.logged (ps.map fun p => .overstay p.slot p.floor) := by
  unfold State.appendOverstays State.logged; rw [List.foldl_map]

/-- The roster at the close event (R53). -/
theorem State.rosterClose_eq (s : State) (g : Nat) :
    s.rosterClose g = { s with
      roster := s.roster.map (fun p => if (s.tenant p.slot).role = .tenant ∧ p.state = .onSite then
          if g = 0 then { p with state := .overstay, countdown := none } else { p with countdown := some g } else p)
      log := (s.logged (if g = 0 then (s.roster.filter fun p => (s.tenant p.slot).role = .tenant ∧ p.state = .onSite).map
        fun p => .overstay p.slot p.floor else [])).log } := by
  unfold State.rosterClose State.timed
  split_ifs with h
  · rw [State.appendOverstays_eq, State.logged_frame, State.setRoster_logged_log]
    have : (fun p : Presence => (s.tenant p.slot).role == Role.tenant && p.state == PresenceState.onSite) =
        fun p => decide ((s.tenant p.slot).role = Role.tenant ∧ p.state = PresenceState.onSite) := by
      funext p; simp [Bool.decide_and]; rfl
    simp [State.setRoster, Presence.overstayed, this]
  · simp [State.setRoster]

/-- The roster at a closing tick (R54). -/
theorem State.rosterTick_eq (s : State) :
    s.rosterTick = { s with
      roster := s.roster.map (fun p => match p.countdown with
            | none => p
            | some k => if k ≤ 1 then { p with state := .overstay, countdown := none } else { p with countdown := some (k - 1) })
      log := (s.logged ((s.roster.filter fun p => p.countdown.any fun k => k ≤ 1).map fun p => .overstay p.slot p.floor)).log } := by
  unfold State.rosterTick
  rw [State.appendOverstays_eq, State.logged_frame]
  rw [State.setRoster_logged_log]
  have h1 : Presence.tick = fun p => match p.countdown with
            | none => p
            | some k => if k ≤ 1 then { p with state := .overstay, countdown := none } else { p with countdown := some (k - 1) } := by
    funext p; unfold Presence.tick; cases p.countdown <;> simp [Presence.overstayed]
  have h2 : Presence.runsOut = fun p => p.countdown.any fun k => decide (k ≤ 1) := by
    funext p; unfold Presence.runsOut; cases p.countdown <;> simp
  rw [h1, h2]; rfl

/-- The close event with its hand-offs (R29, R53): `a` is `s` with clock and log changed. -/
theorem State.closeEvent_eq (s : State) (k : Clock) (g : Log) :
    let a : State := { s with clock := k, log := g }
    let t := a.closeEvent;
      t = { s with clock := t.clock, roster := t.roster, channels := t.channels, stations := t.stations, log := t.log } ∧
      t.clock = { k with phase := if s.grace = 0 then .closed else .closing s.grace } ∧
      t.roster = s.roster.map (fun p =>
            if (s.tenant p.slot).role = .tenant ∧ p.state = .onSite then
              if s.grace = 0 then { p with state := .overstay, countdown := none } else { p with countdown := some s.grace }
            else p) ∧
          t.log = (a.logged (.siteClose s.grace ::
            (if s.grace = 0 then
              (s.roster.filter fun p => (s.tenant p.slot).role = .tenant ∧ p.state = .onSite).map fun p => .overstay p.slot p.floor
            else []) ++ s.restoredEvents { s with clock := t.clock } s.followsPhase)).log ∧
          s.phaseHanded t := by
  intro a t
  have ht : t = ((((a.setPhase (if s.grace = 0 then .closed else .closing s.grace)).append (.siteClose s.grace)).rosterClose s.grace)).channelsFollowPhase := rfl
  rw [State.rosterClose_eq] at ht
  generalize hb : (State.mk _ _ _ _ _ _ _ _ _ _ _ _ _ _ _ _ _ _ _ _ _ _ _ : State) = b at ht
  have hbs : b = { s with clock := b.clock, roster := b.roster, log := b.log } := by subst hb; rfl
  have hbc : b.clock = { k with phase := if s.grace = 0 then .closed else .closing s.grace } := by subst hb; rfl
  have hbr : b.roster = s.roster.map (fun p =>
            if (s.tenant p.slot).role = .tenant ∧ p.state = .onSite then
              if s.grace = 0 then { p with state := .overstay, countdown := none } else { p with countdown := some s.grace }
            else p) := by subst hb; rfl
  have hbl : b.log = ((a.append (.siteClose s.grace)).logged (if s.grace = 0 then
              (s.roster.filter fun p => (s.tenant p.slot).role = .tenant ∧ p.state = .onSite).map fun p => .overstay p.slot p.floor
            else [])).log := by
    subst hb; exact State.logged_log _ _ _ rfl rfl
  have hac : ∀ es, ((a.append (.siteClose s.grace)).logged es).clock = k := fun es => by rw [State.logged_frame]; rfl
  clear hb
  obtain ⟨h1, h2, h3⟩ := State.phase_handed s b hbs
  rw [← ht] at h1 h2 h3
  clear_value t a
  have hc : t.clock = b.clock := by rw [h1]
  have hr : t.roster = b.roster := by rw [h1]
  refine ⟨by rw [h1]; conv_lhs => rw [hbs], hc.trans hbc, hr.trans hbr, ?_, h2⟩
  rw [h3]
  generalize s.restoredEvents _ _ = rs
  rw [List.cons_append, State.logged_cons, State.logged_append]
  apply State.logged_log _ _ _ hbl
  rw [hbc, hac]

/-- The open event with its hand-offs (R31, R55). -/
theorem State.openEvent_eq (s : State) (k : Clock) (g : Log) :
    let a : State := { s with clock := k, log := g }
    let t := a.openEvent;
      t = { s with clock := t.clock, roster := t.roster, channels := t.channels, stations := t.stations, log := t.log } ∧
      t.clock = { k with phase := .opened } ∧
      t.roster = s.roster.map (fun p => { p with countdown := none }) ∧
          t.log = (a.logged (.siteOpen :: s.restoredEvents { s with clock := t.clock } s.followsPhase)).log ∧
          s.phaseHanded t := by
  intro a t
  have ht : t = (((a.setPhase .opened).append .siteOpen).rosterOpen).channelsFollowPhase := rfl
  generalize hb : ((a.setPhase .opened).append .siteOpen).rosterOpen = b at ht
  have hbs : b = { s with clock := b.clock, roster := b.roster, log := b.log } := by subst hb; rfl
  have hbc : b.clock = { k with phase := .opened } := by subst hb; rfl
  have hbr : b.roster = s.roster.map (fun p => { p with countdown := none }) := by subst hb; rfl
  have hbl : b.log = (a.append .siteOpen).log := by subst hb; rfl
  have hac : (a.append .siteOpen).clock = k := rfl
  clear hb
  obtain ⟨h1, h2, h3⟩ := State.phase_handed s b hbs
  rw [← ht] at h1 h2 h3
  clear_value t a
  have hc : t.clock = b.clock := by rw [h1]
  have hr : t.roster = b.roster := by rw [h1]
  refine ⟨by rw [h1]; conv_lhs => rw [hbs], hc.trans hbc, hr.trans hbr, ?_, h2⟩
  rw [h3, State.logged_cons]
  exact State.logged_log _ _ _ hbl (by rw [hbc, hac])

/-- The site-open test (R27). -/
theorem State.siteOpenAt_iff (s a : State) (ha : a = { s with clock := a.clock, log := a.log }) (m : Nat) :
    a.siteOpenAt m = true ↔ s.openMinute (m / 1440) ≤ m % 1440 ∧ m % 1440 < s.closeMinute (m / 1440) := by
  rw [ha]; simp [State.siteOpenAt]; rfl

end Sys2Proof.Machine
end

