-- ==== Sys2Proof/Laws/Frames.lean ====
section
/-! SUPPORT. What a whole frame does at its port (R169 to R171, R174), once for writes and once for reads. -/

namespace Sys2Proof.Machine

/-- Every command of the table has a code of its own. -/
@[simp] theorem commandOf_commandCode (c : Command) : commandOf (commandCode c) = some c := by cases c <;> rfl

/-- The row of a command takes its frame. -/
theorem exec_frameInstr (c : Command) (f : Frame) (s : State) : exec (frameInstr c f) s = .next (commandFrame c f s) := by
  cases c <;> rfl

@[simp] theorem whole_port (p : Port) (args : List Byte) (l : Lines) : (whole p args l).port = p := rfl
@[simp] theorem whole_bytes (p : Port) (args : List Byte) (l : Lines) : (whole p args l).bytes = args := rfl
@[simp] theorem whole_part (p : Port) (args : List Byte) (l : Lines) : (whole p args l).part = .whole := rfl
@[simp] theorem whole_lines (p : Port) (args : List Byte) (l : Lines) : (whole p args l).lines = l := rfl

/-- A frame that draws no free byte leaves what `State.close` says. -/
theorem State.frameDone_zero (s : State) (p : Port) (r : ResultCode) (out : List Byte) :
    s.frameDone p r out 0 = s.close p r out := by cases p <;> rfl

theorem State.frameDone_eq (s : State) (p : Port) (r : ResultCode) (out : List Byte) (k : Nat) :
    s.frameDone p r out k = { s.close p r out with fills := s.fills + k } := rfl

section
variable {s : State} {p : Port} {c : Command} {args more : List Byte} {l : Lines}

/-- Outside repeat mode the command's code is the frame's first byte. -/
theorem commandWire_coded (h : s.takes p) : commandWire c (whole p args l) s = commandCode c :: args := by
  simp [commandWire, h.2]

/-- A whole frame outside repeat mode, by the checks of R170. -/
theorem commandFrame_whole (h : s.takes p) :
    commandFrame c (whole p args l) s =
      let wire := commandCode c :: args
      let e := takeCoded p l (commandCode c) args (frameSample p wire s) s
      e.2.frameDone p e.1 ((newFrame p wire s).shifted p wire s) (fillCount p wire s) := by
  have hm : (newFrame p (commandCode c :: args) s).finalSample p (commandCode c :: args) s =
      frameSample p (commandCode c :: args) s := by
    simp only [OpenFrame.finalSample, newFrame]; cases frameSample p (commandCode c :: args) s <;> rfl
  rw [commandFrame, commandWire_coded h, frameEvent, if_pos h.1]
  show endFrame p l (newFrame p (commandCode c :: args) s) [] s = _
  rw [endFrame]
  simp only [newFrame, List.append_nil, reduceCtorEq, if_false] at hm ⊢
  rw [hm, takeFrame, if_neg (by simp [h.2])]

/-- A whole write frame that passes the checks of R170: the block's result and effect, repeat mode where it is entered, and the
port's record. -/
theorem commandFrame_write (h : s.takes p) (hr : isRead c = false) (hp : permitted c p = true)
    (ha : argumentBytes c s.loader args ≤ args.length) :
    commandFrame c (whole p args l) s =
      let e := runCommand c l args s
      (e.2.enterRepeat p c args e.1).close p e.1 (s.reply p [] (args.length + 1)) := by
  have hs : frameSample p (commandCode c :: args) s = none := by simp [frameSample, h.2, hr]
  have hf : fillCount p (commandCode c :: args) s = 0 := by simp [fillCount, h.2, hr]
  have ho : (newFrame p (commandCode c :: args) s).shifted p (commandCode c :: args) s = s.reply p [] (args.length + 1) := by
    simp [OpenFrame.shifted, OpenFrame.finalSample, newFrame, hs, hf, freeBytes, shiftedOut, State.reply]
  rw [commandFrame_whole h]
  simp only [hs, hf, ho, takeCoded, commandOf_commandCode, hp, hr, Nat.not_lt.2 ha, Bool.not_true, Bool.false_eq_true, if_false]
  exact State.frameDone_zero _ _ _ _

/-- The same on a port where the command enters no repeat mode. -/
theorem commandFrame_plain (h : s.takes p) (hr : isRead c = false) (hp : permitted c p = true)
    (ha : argumentBytes c s.loader args ≤ args.length) (hc : repeatCommand p ≠ some c) :
    commandFrame c (whole p args l) s =
      let e := runCommand c l args s
      e.2.close p e.1 (s.reply p [] (args.length + 1)) := by
  rw [commandFrame_write h hr hp ha]; simp [State.enterRepeat, hc]

/-- What `exec` answers to such a write frame. -/
theorem exec_write (c : Command) (h : s.takes p) (hr : isRead c = false) (hp : permitted c p = true)
    (ha : argumentBytes c s.loader args ≤ args.length) (hc : repeatCommand p ≠ some c) :
    exec (frameInstr c (whole p args l)) s =
      .next (s.taken (runCommand c l args s).2 p (runCommand c l args s).1 (args.length + 1)) := by
  rw [exec_frameInstr, commandFrame_plain h hr hp ha hc]; rfl

/-- A whole read frame that passes the checks of R170: the result of its sampling, its removals, and the bytes shifted out. -/
theorem commandFrame_read (h : s.takes p) (hr : isRead c = true) (hp : permitted c p = true)
    (ha : argumentBytes c s.loader args ≤ args.length) :
    commandFrame c (whole p args l) s =
      let m := sampleOf c args s
      let k := argumentBytes c s.loader args - 1
      let t := if m.result = .ok then endRead c (args.length + 1) m s else s
      { t.close p m.result (s.reply p (freeBytes s.fills k ++ m.data) (args.length + 1)) with fills := t.fills + k } := by
  have hs : frameSample p (commandCode c :: args) s = some (sampleOf c args s) := by simp [frameSample, h.2, hr, hp, ha]
  have hf : fillCount p (commandCode c :: args) s = argumentBytes c s.loader args - 1 := by simp [fillCount, h.2, hr, hp]
  have ho : (newFrame p (commandCode c :: args) s).shifted p (commandCode c :: args) s =
      s.reply p (freeBytes s.fills (argumentBytes c s.loader args - 1) ++ (sampleOf c args s).data) (args.length + 1) := by
    simp [OpenFrame.shifted, OpenFrame.finalSample, newFrame, hs, hf, shiftedOut, State.reply]
  rw [commandFrame_whole h]
  simp only [hs, hf, ho, takeCoded, commandOf_commandCode, hp, hr, Nat.not_lt.2 ha, Bool.not_true, Bool.false_eq_true, if_false,
    if_true, takeRead]
  split <;> rename_i hm
  · simp only [hm]; rfl
  · rfl

/-- What `exec` answers to such a read frame. -/
theorem exec_read (c : Command) (h : s.takes p) (hr : isRead c = true) (hp : permitted c p = true)
    (ha : argumentBytes c s.loader args ≤ args.length) :
    exec (frameInstr c (whole p args l)) s = .next (
      let m := sampleOf c args s
      let k := argumentBytes c s.loader args - 1
      let t := if m.result = .ok then endRead c (args.length + 1) m s else s
      { t.close p m.result (s.reply p (freeBytes s.fills k ++ m.data) (args.length + 1)) with fills := t.fills + k }) := by
  rw [exec_frameInstr, commandFrame_read h hr hp ha]

/-- A whole frame refused by its port engine changes the port's record alone. -/
theorem commandFrame_notPermitted (h : s.takes p) (hp : permitted c p = false) :
    commandFrame c (whole p args l) s = s.close p .notPermitted (s.reply p [] (args.length + 1)) := by
  have hs : frameSample p (commandCode c :: args) s = none := by simp [frameSample, h.2, hp]
  have hf : fillCount p (commandCode c :: args) s = 0 := by simp [fillCount, h.2, hp]
  have ho : (newFrame p (commandCode c :: args) s).shifted p (commandCode c :: args) s = s.reply p [] (args.length + 1) := by
    simp [OpenFrame.shifted, OpenFrame.finalSample, newFrame, hs, hf, freeBytes, shiftedOut, State.reply]
  rw [commandFrame_whole h]
  simp only [hs, hf, ho, takeCoded, commandOf_commandCode, hp, Bool.not_false, if_true]
  exact State.frameDone_zero _ _ _ _

/-- The later events of a frame act on the frame that stands open. -/
theorem exec_closing (h : s.running = true) :
    exec (frameInstr c { port := p, bytes := more, part := .closing, lines := l }) s = .next (closeFrame p l more s) := by
  rw [exec_frameInstr]; simp [commandFrame, frameEvent, h]

theorem exec_middle (h : s.running = true) :
    exec (frameInstr c { port := p, bytes := more, part := .middle, lines := l }) s =
      .next (clockFrame p (commandWire c { port := p, bytes := more, part := .middle, lines := l } s) more s) := by
  rw [exec_frameInstr]; simp [commandFrame, frameEvent, h]

/-- What a frame with a listed code samples outside repeat mode (R170). -/
theorem frameSample_coded (h : s.takes p) :
    frameSample p (commandCode c :: args) s =
      if isRead c = true ∧ permitted c p = true ∧ argumentBytes c s.loader args ≤ args.length then some (sampleOf c args s)
      else none := by
  simp only [frameSample, h.2, commandOf_commandCode]
  cases isRead c <;> cases permitted c p <;> simp

theorem fillCount_read (h : s.takes p) (hr : isRead c = true) (hp : permitted c p = true) :
    fillCount p (commandCode c :: args) s = argumentBytes c s.loader args - 1 := by simp [fillCount, h.2, hr, hp]

/-- A read needs the same argument bytes whatever they are. -/
theorem argumentBytes_read (hr : isRead c = true) (l : Loader) (args more : List Byte) :
    argumentBytes c l (args ++ more) = argumentBytes c l args := by cases c <;> first | rfl | cases hr

/-- The end of a frame whose data is sampled (R169): the sample's result, its removals, and the bytes shifted out. -/
theorem exec_closing_sampled {st : Byte} {m : Sample} (h : s.takes p) (hr : isRead c = true) (hp : permitted c p = true)
    (ha : argumentBytes c s.loader args ≤ args.length)
    (hm : (s.port p).assembly = some { wire := commandCode c :: args, status := st, sample := some m }) :
    exec (frameInstr c { port := p, bytes := more, part := .closing, lines := l }) s =
      let n := args.length + more.length + 1
      let k := argumentBytes c s.loader args - 1
      let t := if m.result = .ok then endRead c n m s else s
      .next { t.close p m.result ((st :: byteOf (s.port p).lastResult.code ::
          (freeBytes s.fills k ++ m.data ++ List.replicate n 0xFF)).take n) with fills := t.fills + k } := by
  have ha' : ¬ (args ++ more).length < argumentBytes c s.loader (args ++ more) := by
    rw [argumentBytes_read hr]; simp; omega
  have hlen : (args ++ more).length + 1 = args.length + more.length + 1 := by simp
  have ht : takeFrame p l (commandCode c :: (args ++ more)) (some m) s =
      if m.result = .ok then (.ok, endRead c (args.length + more.length + 1) m s) else (m.result, s) := by
    simp only [takeFrame, h.2, takeCoded, commandOf_commandCode, hp, ha', hr, takeRead, hlen]; rfl
  rw [exec_closing h.1]
  simp only [closeFrame, hm, endFrame, List.cons_append, OpenFrame.finalSample, Option.or, OpenFrame.shifted,
    fillCount_read h hr hp, argumentBytes_read hr, shiftedOut, List.length_cons, hlen, ht]
  by_cases hk : m.result = .ok <;> simp [hk, State.frameDone_eq]

end

end Sys2Proof.Machine
end

