-- ==== Sys2Proof/Laws/Listed.lean ====
section
/-! SUPPORT. The laws of the blocks read off what the collections list: enough to check them on a state written out. -/

namespace Sys2Proof.Machine

/-- What an index reads as is the default or is listed there. -/
theorem Table.get_mem {α : Type} (d : α) (t : List (Nat × α)) (i : Nat) : Table.get d t i = d ∨ (i, Table.get d t i) ∈ t := by
  induction t with
  | nil => exact .inl rfl
  | cons e rest ih =>
    by_cases h : e.1 = i
    · right; subst h; simp [Table.get]
    · rcases ih with ih | ih
      · left; simpa [Table.get, h] using ih
      · right; simp only [Table.get, h, if_false]; exact List.mem_cons_of_mem _ ih

variable {s : State}

theorem State.tenant_listed (i : Nat) : s.tenant i = TenantRecord.cold ∨ (i, s.tenant i) ∈ s.tenants := Table.get_mem _ _ _
theorem State.unit_listed (u : Nat) : s.unit u = UnitRecord.cold ∨ (u, s.unit u) ∈ s.units := Table.get_mem _ _ _
theorem State.channel_listed (c : Nat) : s.channel c = Channel.cold ∨ (c, s.channel c) ∈ s.channels := Table.get_mem _ _ _

theorem credentialLaw_of_listed (h : ∀ a ∈ s.tenants, ∀ b ∈ s.tenants, a.2.state ≠ .free → b.2.state ≠ .free →
    a.2.credential = b.2.credential → a.1 = b.1) : s.credentialLaw := by
  intro i j _ _ hi hj hc
  rcases s.tenant_listed i with h1 | h1
  · rw [h1] at hi; exact absurd rfl hi
  rcases s.tenant_listed j with h2 | h2
  · rw [h2] at hj; exact absurd rfl hj
  exact h _ h1 _ h2 hi hj hc

theorem freeLaw_of_listed (h : ∀ a ∈ s.tenants, a.2.state = .free → a.2.units = []) : s.freeLaw := by
  intro i hi
  rcases s.tenant_listed i with h1 | h1
  · rw [h1]; rfl
  · exact h _ h1 hi

theorem pairingLaw_of_listed (hu : ∀ a ∈ s.units, ∀ i ∈ a.2.tenant, a.1 ∈ (s.tenant i).units)
    (ht : ∀ a ∈ s.tenants, (∀ u ∈ a.2.units, (s.unit u).tenant = some a.1) ∧ a.2.units.Nodup ∧ a.2.units.length ≤ 8) :
    s.pairingLaw := by
  refine ⟨fun u i => ⟨fun h => ?_, fun h => ?_⟩, fun i => ?_⟩
  · rcases s.unit_listed u with h1 | h1
    · rw [h1] at h; exact absurd h (by simp [UnitRecord.cold])
    · exact hu _ h1 i h
  · rcases s.tenant_listed i with h1 | h1
    · rw [h1] at h; exact absurd h (by simp [TenantRecord.cold])
    · exact (ht _ h1).1 u h
  · rcases s.tenant_listed i with h1 | h1
    · rw [h1]; simp [TenantRecord.cold]
    · exact (ht _ h1).2

theorem armingLaw_of_listed (h : ∀ a ∈ s.units, a.2.arm = .disarmed ∨ a.2.visit = true → a.2.tenant.any s.isPresent = true) :
    s.armingLaw := by
  intro u hu
  rcases s.unit_listed u with h1 | h1
  · rw [h1] at hu; simp [UnitRecord.cold] at hu
  · have := h _ h1 hu
    rw [Option.any_eq_true] at this
    obtain ⟨i, h2, h3⟩ := this
    exact ⟨i, h2, h3⟩

theorem channelLaw_of_listed (h : ∀ a ∈ s.channels, a.2.lawful) : s.channelLaw := by
  intro c
  rcases s.channel_listed c with h1 | h1
  · rw [h1]; simp [Channel.lawful, Channel.cold]
  · exact h _ h1

theorem carriedLaw_of_listed (h : ∀ a ∈ s.channels, ∀ n ∈ a.2.carried,
    n < 64 ∧ ∃ p, (s.station n).state = .passage p ∧ p.channel = some a.1) : s.carriedLaw := by
  intro c n hn
  rcases s.channel_listed c with h1 | h1
  · rw [h1] at hn; exact absurd hn (by simp [Channel.cold])
  · exact h _ h1 n hn

theorem rangeLaw_of_listed (hc : ∀ a ∈ s.channels, a.2.carried.isSome = true → a.1 < 16)
    (hr : ∀ a ∈ s.stations, ∀ r, a.2.state = .pending r → ∀ c ∈ r.config.channel, c < 16) : s.rangeLaw := by
  refine ⟨fun c h => ?_, fun n r h => ?_⟩
  · rcases s.channel_listed c with h1 | h1
    · rw [h1]; rfl
    · cases hn : (s.channel c).carried with
      | none => rfl
      | some n => exact absurd (hc _ h1 (by rw [hn]; rfl)) (Nat.not_lt.2 h)
  · rcases Table.get_mem StationSlot.cold s.stations n with h1 | h1
    · rw [show s.station n = StationSlot.cold from h1] at h; simp [StationSlot.cold] at h
    · exact hr _ h1 r h

theorem requestTenant_none_of_listed {c : Credential}
    (h : ∀ a ∈ s.tenants, a.2.state = .free ∨ a.2.credential ≠ c) : s.requestTenant c none := by
  intro i _
  rcases s.tenant_listed i with h1 | h1
  · left; rw [h1]; rfl
  · exact h _ h1

theorem requestTenant_some {c : Credential} {i : Nat}
    (h : i < 2048 ∧ (s.tenant i).state ≠ .free ∧ (s.tenant i).credential = c) : s.requestTenant c (some i) := h

theorem cars_idle_of_listed (h : ∀ a ∈ s.cars, ∀ q, a.2.state ≠ .pending q) : ∀ k < 4, ∀ q, (s.car k).state ≠ .pending q := by
  intro k _ q
  rcases Table.get_mem CarSlot.cold s.cars k with h1 | h1
  · rw [show s.car k = CarSlot.cold from h1]; simp [CarSlot.cold]
  · exact h _ h1 q

theorem stations_idle_of_listed (h : ∀ a ∈ s.stations, ∀ q, a.2.state ≠ .pending q) :
    ∀ k < 64, ∀ q, (s.station k).state ≠ .pending q := by
  intro k _ q
  rcases Table.get_mem StationSlot.cold s.stations k with h1 | h1
  · rw [show s.station k = StationSlot.cold from h1]; simp [StationSlot.cold]
  · exact h _ h1 q

theorem units_nodup_of_listed (h : ∀ a ∈ s.tenants, a.2.units.Nodup) (i : Nat) : (s.tenant i).units.Nodup := by
  rcases s.tenant_listed i with h1 | h1
  · rw [h1]; simp [TenantRecord.cold]
  · exact h _ h1

end Sys2Proof.Machine
end

