-- ==== Sys2Proof/Tests/Slice0.lean ====
section
/-! SUPPORT. Tests of one step each on a small state, from the manual's worked examples; the refusal of ill-formed terms; and for
each statement a state and operands that meet its hypotheses (`witness_<statement>`). -/

namespace Sys2Proof.Tests
open Sys2Proof Sys2Proof.Machine
set_option Elab.async false

/-! ## Helpers -/

/-- The state a command leaves behind. -/
def after (i : Instr) (s : State) : State :=
  match exec i s with
  | .next t => t
  | _ => s

/-- Line levels with nothing active but, where `key` holds, SVCKEY. -/
def levels (key : Bool) : Lines := { svckey := key, fire := false, gate := 0, egress := 0 }

/-- The state after a whole frame of command `c` on port `p`. -/
def sent (c : Command) (p : Port) (args : List Byte) (s : State) (key : Bool := true) : State :=
  after (frameInstr c (whole p args (levels key))) s

/-- The state after one event of a frame of command `c` on port `p`. -/
def piece (c : Command) (p : Port) (part : FramePart) (bytes : List Byte) (s : State) : State :=
  after (frameInstr c { port := p, bytes, part, lines := levels false }) s

/-- The last-result byte after it. -/
def result (c : Command) (p : Port) (args : List Byte) (s : State) (key : Bool := true) : ResultCode :=
  ((sent c p args s key).port p).lastResult

/-- The bytes it shifted out. -/
def shifted (c : Command) (p : Port) (args : List Byte) (s : State) : List Byte := ((sent c p args s).port p).out

/-- The last `n` events of the log. -/
def lastEvents (n : Nat) (s : State) : List Event := ((s.log.records.reverse.take n).reverse).map (·.event)

/-- A port outside repeat mode whose last frame failed inside a byte, so that a result in a test is the frame's own. -/
def idle : PortState := { lastResult := .framing, repeating := false, assembly := none, out := [] }

def holderOf (slot : Nat) (e : BitVec 8) : Holder := { slot, enrolment := e }

/-- A granted entry of slot 1 through channel 0, under RELEASE. -/
def entering : Passage :=
  { kind := .entry, destination := some 0, channel := some 0, holder := some (holderOf 1 7)
    reservation := some { slot := 1, place := false, claim := none }, governor := .release, opened := false }

/-- A granted exit of slot 0 at a station without a gate channel. -/
def leaving : Passage :=
  { kind := .exit, destination := none, channel := none, holder := some (holderOf 0 1), reservation := none
    governor := .window 5000000, opened := false }

def rising : Trip :=
  { holder := some (holderOf 0 1), destination := 2, reservation := some { slot := 0, place := false, claim := some 2 }
    deadline := 30000000 }

def kept : CarVerdict :=
  { outcome := .grant, tenant := some 0, destination := 2, reachable := [0, 2, 15], unfetched := true }

def released : Channel :=
  { state := .released, gateOpen := false, drive := .pick, releaseTimer := some 3000000, heldOpenTimer := none
    pickTimer := some 100000, carried := some 0, egress := false }

def unlocked : Channel :=
  { state := .unlocked, gateOpen := true, drive := .hold, releaseTimer := none, heldOpenTimer := none, pickTimer := none
    carried := none, egress := false }

/-- A part at work: slot 0 protected (P = 1), slot 1 a tenant on site with unit 10, slot 2 overlocked with unit 11, slot 3 FREE
after 255 enrolments, slot 4 suspended; grace 2, factor 2; Monday open all day; stations 0 ENTRY, 1 EXIT, 2 ZONE (floor 2). -/
def demo : State :=
  { State.reset with
    office := idle, lift := idle, field := idle, cursor := some 3
    tenants :=
      [(0, ⟨.active, 1, .staff, .card 5, 0, false, []⟩), (1, ⟨.active, 7, .tenant, .keypad 4 123, 0, true, [10]⟩),
        (2, ⟨.overlocked, 3, .tenant, .keypad 5 123, 0, false, [11]⟩), (3, ⟨.free, 255, .tenant, .card 9, 0, false, []⟩),
        (4, ⟨.suspended, 2, .tenant, .card 6, 0, false, []⟩)]
    units :=
      [(10, ⟨2, some 1, .disarmed, .closed, true⟩), (11, ⟨1, some 2, .overlock, .opened, false⟩),
        (12, ⟨0, none, .alarm .openedVacant, .closed, false⟩)]
    clock := { minute := 100, seconds := 59, phase := .opened }
    roster := [⟨1, 90, 0, .onSite, none⟩, ⟨0, 95, 0, .onSite, none⟩]
    stations :=
      [(0, { state := .passage entering, verdict := some { outcome := .grant 60, tenant := some 1, unfetched := true } }),
        (1, { state := .ready, verdict := none }), (2, { state := .ready, verdict := none }),
        (3, { state := .ready, verdict := none }), (63, { state := .passage leaving, verdict := none })]
    cars := [(3, { state := .trip rising, verdict := some kept })]
    channels := [(0, released), (1, unlocked), (3, unlocked)]
    params :=
      [(0, 0x02010102), (1, 0x05A00000), (8, 0x001E001E), (9, 0x000A001E), (10, 0x00F0000A), (15, 0x01020001),
        (16, 0x00000223), (47, 0x03000201), (51, 0xF344FA92)]
    control := { mode := .normal, fireLive := false, fireLatch := false, tableFault := false, resetCause := .cold } }

/-- `demo` with an edit window open. -/
def editing : State := { demo with window := some 60000000, sweep := none }

/-- `demo` with a load ACTIVE of the given kind, `buffer` in its buffer and 4 records still to come. -/
def loading (kind : LoadKind) (buffer : List LoadRecord) : State :=
  { demo with
    loader := { active := true, kind, count := 4, nextTarget := 3, committed := 0, skipped := 0, remaining := 4, buffer } }

/-- `demo` with nothing at the stations and cars but one request pending at station `n`. -/
def asking (n : Nat) (c : Credential) (type : StationType) (floor : Nat) (channel : Option Nat) : State :=
  { demo with
    stations := [(n, { state := .pending { credential := c, config := { type, floor, channel } }, verdict := none })]
    cars := [], channels := [(1, unlocked), (3, unlocked)] }

/-- `demo` with one query pending at car `n`. -/
def calling (n : Nat) (c : Credential) (floor : Nat) : State :=
  { demo with stations := [], cars := [(n, { state := .pending { credential := c, floor }, verdict := none })] }

theorem demo_takes (p : Port) : demo.takes p := by cases p <;> exact ⟨rfl, rfl⟩

/-! ## Well-formed commands -/

theorem smoke_unknownCommand_with_listed_code : (Instr.unknownCommand 0x22 (whole .office [] (levels false))).wellFormed = false := by
  decide
theorem smoke_repeatModeLeave_on_office : (Instr.repeatModeLeave (whole .office [] (levels false))).wellFormed = false := by decide
theorem smoke_wellFormed_accepted :
    (Instr.unknownCommand 0x02 (whole .office [] (levels false))).wellFormed = true ∧
      (Instr.repeatModeLeave (whole .lift [] (levels false))).wellFormed = true := by decide

/-! ## The manual's worked examples -/

/-- R3: the strings of the table. -/
theorem test_credential_examples :
    credentialOf 0x04 123 = some (.keypad 4 123) ∧ credentialOf 0x05 123 = some (.keypad 5 123) ∧
      credentialOf 0x08 99999999 = some (.keypad 8 99999999) ∧ credentialOf 0x04 12345 = none ∧
      credentialOf 0x03 123 = none ∧ credentialOf 0x1F 4294967295 = some (.card 4294967295) := by decide +kernel

/-- R27: the site of the table. -/
def hours : State :=
  { demo with
    params := [(1, 0x05280168), (2, 0x05280168), (3, 0x05280168), (4, 0x05280168), (5, 0x05280168), (6, 0x05A001A4),
      (7, 0x04B00000)] }

theorem test_siteOpen_examples :
    [359, 360, 2759, 2760, 8639, 8640, 9840, 10079].map hours.siteOpenAt =
      [false, true, true, false, true, true, false, false] := by decide +kernel

/-- R38: the release times of the table. -/
theorem test_releaseTime_examples :
    [(50, 3, true), (50, 3, false), (120, 4, true), (80, 2, true), (10, 1, true), (70, 4, true)].map
      (fun e => { demo with
        params := [(0, BitVec.ofNat 32 (e.2.1 * 16777216)), (8, BitVec.ofNat 32 e.1)]
        tenants := [(1, { TenantRecord.cold with extended := e.2.2 })] }.releaseTime (some 1)) =
      [150, 50, 250, 160, 10, 250] := by decide +kernel

/-- R140: the counts accepted. -/
theorem test_loadBegin_examples :
    [[0, 0x07, 0x6C, 0, 200], [0, 0, 64, 0x01, 0xF4], [1, 0x0B, 0xB8, 0, 100], [1, 0x0B, 0xFF, 0, 5]].map
        (fun args => (sent .loadBegin .office args demo).loader.count) = [148, 500, 72, 1] ∧
      result .loadBegin .office [0, 0, 0, 0, 0] demo = .badArgument := by decide +kernel

/-- R4: from 255 the enrolment goes to 0. -/
theorem test_tenantWrite_wraps_enrolment :
    (sent .tenantWrite .office [0x80, 0x10, 15, 0, 0, 0, 9, 0] demo).tenant 3 =
      ⟨.active, 0, .tenant, .card 9, 15, true, []⟩ := by decide +kernel

theorem test_setClock_moves_the_minute :
    (sent .setClock .office [0x27, 0x5F] demo).clock.minute = 10079 ∧
      (lastEvents 2 (sent .setClock .office [0x27, 0x5F] demo)) = [.clockSet 100, .siteClose 2] := by decide +kernel

theorem test_minuteTick_from_second_59 :
    (after .secondTick demo).clock = { minute := 101, seconds := 0, phase := .opened } := by decide +kernel

/-- R125, R76: the gate opens under a release; R126, R83: it closes, and the entry completes without a second record. -/
theorem test_gate_opens_and_closes :
    let t := after (.gateContactOpen 0) demo
    let u := after (.gateContactClose 0) t
    (t.channel 0).state = .passing ∧ (u.channel 0).state = .secure ∧ (u.station 0).state = .ready ∧
      lastEvents 1 u = [.entry 0 (some 1)] := by decide +kernel

theorem test_forced_gate : lastEvents 1 (after (.gateContactOpen 2) demo) = [.gateForced 2] := by decide +kernel

/-- R136: 12 V held on a 15 V supply: H = 240, v = 300. -/
theorem test_supplySample_duty : (after (.supplySample 300) demo).strike.nextDuty = some 205 := by decide +kernel

theorem test_supplySample_boundary :
    lastEvents 1 (after (.supplySample 119) demo) = [.supplyFail 119] ∧
      lastEvents 1 (after (.supplySample 120) demo) = [.supplyLow 120] := by decide +kernel

theorem test_unitFloor_boundary :
    result .unitFloor .office [0x0B, 0xFF, 15] demo = .ok ∧ result .unitFloor .office [0x0C, 0x00, 15] demo = .badArgument ∧
      result .unitFloor .office [0x0B, 0xFF, 16] demo = .badArgument := by decide +kernel

theorem test_profile_reads_back :
    (shifted .profileRead .office (0 :: List.replicate 18 0)
      (sent .profileWrite .office [0, 1, 0, 1, 0, 2, 0, 3, 0, 4, 0, 5, 0, 6, 0x27, 0x5F, 0, 0] demo)).drop 2 =
      [1, 0, 1, 0, 2, 0, 3, 0, 4, 0, 5, 0, 6, 0x27, 0x5F, 0, 0, 0xFF] := by decide +kernel

theorem test_presenceRemove_leaves :
    let t := sent .presenceRemove .office [0, 1] demo
    t.roster.map (·.slot) = [0] ∧ (t.unit 10).arm = .armed ∧ lastEvents 1 t = [.presenceRemoved 1 0] := by decide +kernel

theorem test_carFetch_bytes :
    (shifted .carFetch .lift [3, 0, 0, 0, 0, 0, 0, 0] demo).drop 2 = [0x00, 0x00, 0x00, 0x00, 0x02, 0x80, 0x05] := by
  decide +kernel

theorem test_statusByte_of_demo : demo.statusByte .office = 0x21 ∧ demo.statusByte .lift = 0x21 := by decide +kernel

theorem test_coldReset_forced_gate :
    let t := after (.coldReset { levels false with gate := 0x8000 } true) demo
    lastEvents 2 t = [.reset .cold .fallback false, .gateForced 15] ∧ t.control.mode = .fallback ∧ t.roster = [] := by
  decide +kernel

theorem test_fireInput_abandons :
    let t := after .fireInputActive demo
    lastEvents 4 t = [.fireOn, .tripAbandoned .fire 3 (some 0), .passageAbandoned .fire 0 (some 1),
      .passageAbandoned .fire 63 (some 0)] ∧ (t.channel 0).state = .unlocked ∧ (t.channel 15).drive = .pick := by
  decide +kernel

/-- R169: a frame in five events. The status byte is that of the falling edge of xSEL; the data is that of the event that
completes the arguments, whatever the unit has become since. -/
theorem test_frame_in_five_events :
    let sampled := piece .unitRead .office .middle [10]
      { piece .unitRead .office .middle [0] (piece .unitRead .office .select [] demo) with
        control := { demo.control with fireLatch := true } }
    let t := piece .unitRead .office .closing [0, 0, 0] { sampled with units := [] }
    t.office.out.head? = some 0x21 ∧ t.office.out.drop 3 = [2, 0, 1] ∧ t.office.lastResult = .ok ∧ t.units = [] := by
  decide +kernel

/-- R167: the records sampled and shifted out whole are removed at the end of the frame. -/
theorem test_logRead_in_two_events :
    let opened := piece .logRead .office .opening [1] demo
    opened.log = demo.log ∧ (piece .logRead .office .closing (List.replicate 9 0) opened).log = demo.log ∧
      (piece .logRead .office .closing (List.replicate 10 0) (opened.append .siteOpen)).log.records.map (·.event) = [.siteOpen] := by
  decide +kernel

/-- R167: a record sampled that an append has since discarded is gone, and a later one of the same content stays. -/
theorem test_logRead_keeps_an_equal_record :
    let opened := piece .logRead .office .opening [1] demo
    let wrapped : State := { opened with log := { opened.log with discards := 65535 } }
    demo.log.records.length = 1 ∧ demo.log.discards = 0 ∧
      (piece .logRead .office .closing (List.replicate 10 0) wrapped).log.records = demo.log.records := by decide +kernel

/-- R29, R160: the SCHEDULE channel 1 is not handed a close event while RST is active; the roster is. -/
theorem test_minuteTick_held :
    let s : State := { demo with clock := { minute := 1439, seconds := 0, phase := .opened } }
    let held := after .minuteTick { s with power := { s.power with rst := true } }
    ((after .minuteTick s).channel 1).state = .passing ∧ held.channel 1 = unlocked ∧ held.clock.phase = .closing 2 ∧
      held.roster.map (·.countdown) = [some 2, none] := by decide +kernel

/-- R128, R79: a channel that enters UNLOCKED from FORCED appends GATE_RESTORED. -/
theorem test_mode_free_restores :
    let s : State := { demo with
      window := some 60000000, sweep := none
      channels := [(2, { unlocked with state := .forced, drive := .off }), (3, unlocked)] }
    let t := sent .paramWrite .office [47, 3, 3, 2, 1] s
    lastEvents 1 t = [.gateRestored .forced 2] ∧ (t.channel 2).state = .unlocked ∧ (t.channel 2).drive = .pick := by
  decide +kernel

theorem test_no_word_spells_a_command : decodeTableWord 16 0x9022 = none := by decide

/-! ## A state and operands for the hypotheses of each statement -/

section
variable {α : Type}

/-- A port in repeat mode. -/
def repeating : PortState := { idle with repeating := true }

theorem demo_running : demo.running = true := rfl
theorem demo_credentialLaw : demo.credentialLaw := credentialLaw_of_listed (by decide +kernel)
theorem demo_nodup (i : Nat) : (demo.tenant i).units.Nodup := units_nodup_of_listed (by decide +kernel) i

theorem witness_StepRunsTheFrontCommand :
    ({ demo with pending := [.minuteTick, .fireInputActive] } : State).pending = .minuteTick :: [.fireInputActive] ∧
      demo.pending = [] := ⟨rfl, rfl⟩

theorem witness_FramesWithoutEffect :
    permitted .present .office = false ∧ permitted .unitFloor .office = true ∧
      ([0, 10] : List Byte).length < argumentBytes .unitFloor demo.loader [0, 10] ∧ unlistedCode 0x02 = true ∧
      ({ demo with field := repeating } : State).running = true ∧
      (({ demo with field := repeating } : State).port .field).repeating = true := by decide +kernel

theorem witness_FramesWithoutEffect_results :
    result .present .office [0, 0, 0, 0, 0, 0] demo = .notPermitted ∧ result .unitFloor .office [0, 10] demo = .short ∧
      result .repeatEnd .office [] demo = .notPermitted ∧ result .repeatEnd .lift [] demo = .ok := by decide +kernel

/-- A frame that ends inside a byte: of a code alone, of a read opened before, and of a read whose arguments are complete. -/
theorem witness_FramesWithoutEffect_framing :
    (demo.port .office).assembly = none ∧ demo.takes .office ∧ isRead .paramRead = true ∧ permitted .paramRead .office = true ∧
      argumentBytes .paramRead demo.loader [47] ≤ [(47 : Byte)].length ∧ isRead .unitFloor = false ∧
      let opened := piece .paramRead .office .opening [47] demo
      opened.takes .office ∧ (opened.port .office).assembly =
        some { wire := commandCode .paramRead :: [47], status := 0x21, sample := some (sampleOf .paramRead [47] demo) } ∧
      (after (.framing .office [0, 0]) opened).office.out = [0x21, byteOf ResultCode.framing.code, 0x03, 0x00] ∧
      (after (.framing .office [0x52, 47, 0, 0]) demo).office.out = [0x21, byteOf ResultCode.framing.code, 0x03, 0x00] ∧
      (after (.framing .office [0x31]) demo).office.out = [0x21] := by
  unfold State.takes; decide +kernel

theorem witness_RepeatModeFramesActAsCoded :
    let s : State := { demo with field := repeating, lift := repeating }
    let five : List Byte := [1, 0x10, 0, 0, 0]
    s.running = true ∧ s.field.repeating = true ∧ s.lift.repeating = true ∧ byteAt five 0 ≠ 0xFF ∧ five ≠ [] ∧
      five.length < 6 ∧ 6 ≤ (five ++ [5]).length ∧ (five ++ [5]).length < 7 ∧ 7 ≤ (five ++ [5, 15]).length ∧
      result .present .field five s = .short ∧ result .present .field (five ++ [5]) s = .ok ∧
      result .carQuery .lift (five ++ [5]) s = .short ∧ result .carQuery .lift (five ++ [5, 15]) s = .ok ∧
      result .stationOnline .field [0x10, 0, 0, 0, 5] s = .offline ∧ result .carAlight .lift [0] s = .short := by decide +kernel

theorem witness_FramesSampleAtTheirOpeningAndActAtTheirEnd :
    isRead .unitRead = true ∧ permitted .unitRead .office = true ∧
      argumentBytes .unitRead demo.loader [0, 10] ≤ [(0 : Byte), 10].length ∧
      [(0 : Byte)].length < argumentBytes .unitRead demo.loader [0] ∧
      let s := after (frameInstr .unitRead { port := .office, bytes := [0, 10], part := .opening, lines := levels false }) demo
      s.takes .office ∧ (s.port .office).assembly =
        some { wire := commandCode .unitRead :: [0, 10], status := 0x21, sample := some (sampleOf .unitRead [0, 10] demo) } := by
  refine ⟨rfl, rfl, by decide, by decide, ⟨rfl, rfl⟩, ?_⟩
  decide +kernel

theorem witness_FramesSampleAtTheirOpeningAndActAtTheirEnd_write :
    let s := after (frameInstr .selectTenant { port := .office, bytes := [0], part := .opening, lines := levels false }) demo
    isRead .selectTenant = false ∧ s.takes .office ∧
      (s.port .office).assembly = some { wire := commandCode .selectTenant :: [0], status := 0x21, sample := none } :=
  ⟨rfl, ⟨rfl, rfl⟩, by decide +kernel⟩

theorem witness_FramesSampleAtTheirOpeningAndActAtTheirEnd_parts :
    let selected := piece .unitRead .office .select [] demo
    let coded := piece .unitRead .office .middle [0] selected
    selected.takes .office ∧ (selected.port .office).assembly = some { wire := [], status := 0x21, sample := none } ∧
      coded.takes .office ∧
      (coded.port .office).assembly = some { wire := commandCode .unitRead :: [0], status := 0x21, sample := none } ∧
      argumentBytes .unitRead coded.loader ([0] ++ [10]) ≤ ([(0 : Byte)] ++ [10]).length ∧
      ([(0 : Byte)] ++ []).length < argumentBytes .unitRead coded.loader ([0] ++ []) ∧
      (piece .null .office .closing [10] coded).office.lastResult = .ok ∧
      (piece .unitRead .office .closing [] coded).office.lastResult = .short ∧
      piece .unitRead .office .closing [] selected = demo := by unfold State.takes; decide +kernel

theorem witness_StatusByteAndAttentionLines :
    demo.takes .lift ∧ demo.running = true ∧
      let s := after (frameInstr .null { port := .lift, bytes := [], part := .opening, lines := levels false }) demo
      s.running = true ∧ (s.port .lift).assembly = some { wire := [0], status := 0x21, sample := none } :=
  ⟨demo_takes _, rfl, rfl, by decide +kernel⟩

theorem witness_SelectionCursor :
    demo.takes .office ∧ demo.power.main = true ∧ demo.credentialLaw ∧ (demo.tenant 1).state ≠ .free ∧
      (demo.tenant 1).credential = .keypad 4 123 ∧ credentialOf 0x04 (longAt [4, 0, 0, 0, 123] 1) = some (.keypad 4 123) ∧
      credentialOf 0x03 (longAt [3, 0, 0, 0, 123] 1) = none ∧ demo.requestTenant (.card 9) none :=
  ⟨demo_takes _, rfl, demo_credentialLaw, by refine ⟨?_, ?_, ?_, ?_, requestTenant_none_of_listed ?_⟩ <;> decide +kernel⟩

theorem witness_SelectionCursor_results :
    (sent .selectTenant .office [7, 0xFF] demo).cursor = some 2047 ∧ result .selectTenant .office [8, 0] demo = .badArgument ∧
      (sent .findTenant .office [4, 0, 0, 0, 123] demo).cursor = some 1 ∧
      result .findTenant .office [3, 0, 0, 0, 123] demo = .badArgument ∧
      result .findTenant .office [0x10, 0, 0, 0, 9] demo = .notFound := by decide +kernel

theorem witness_CredentialsAndDetailsReadBack :
    (Credential.keypad 8 99999999).valid = true ∧ detailsAt [0x81, 0x04, 15, 0, 0, 0x27, 0x0F] 0 =
      some { role := .staff, extended := true, credential := .keypad 4 9999, profile := 15 } := by decide +kernel

/-- A card credential written by slot 1 (`demo`'s slot 4 holds card 6). -/
def card (n : Byte) : List Byte := [0, 0x10, 0, 0, 0, 0, n, 0]

theorem witness_TenantWrite :
    demo.takes .office ∧ 8 ≤ (card 6).length ∧
      result .tenantWrite .office [2, 0x10, 0, 0, 0, 0, 7, 0] demo = .badArgument ∧
      result .tenantWrite .office (card 7) { demo with cursor := none } = .noSelection ∧
      result .tenantWrite .office (card 7) (loading .tenant []) = .busy ∧
      result .tenantWrite .office (card 5) { demo with cursor := some 0 } (key := false) = .isProtected ∧
      result .tenantWrite .office (card 6) { demo with cursor := some 1 } (key := false) = .duplicate ∧
      result .tenantWrite .office (card 6) { demo with cursor := some 4 } = .ok :=
  ⟨demo_takes _, by decide +kernel⟩

theorem witness_TenantStateAndFreeTaken :
    newStateOf 2 = some .overlocked ∧ newStateOf 1 = some .active ∧
      ¬(demo.loader.active = true ∧ demo.loader.kind = .tenant) ∧ demo.protectedCount ≤ 1 ∧ (demo.tenant 1).state ≠ .free ∧
      (∀ u ∈ (demo.tenant 1).units, (demo.unit u).tenant = some 1) ∧ (demo.tenant 2).state = .overlocked ∧
      (∀ u ∈ (demo.tenant 2).units, (demo.unit u).tenant = some 2) ∧ demo.isPresent 2 = false ∧
      (demo.tenant 2).units.Nodup ∧
      ((sent .tenantState .office [1] { demo with cursor := some 2 }).unit 11).arm = .armed ∧
      ((sent .tenantFree .office [] { demo with cursor := some 2 }).unit 11).arm = .alarm .openedVacant := by decide +kernel

theorem witness_AssignAndReleaseUnitTaken :
    wordAt [0x0B, 0xFF] 0 = 3071 ∧ (demo.unit 3071).tenant = none ∧ (demo.tenant 1).units.length < 8 ∧
      (demo.unit 12).tenant = none ∧ (demo.unit 12).arm.stays = true ∧ 10 ∈ (demo.tenant 1).units ∧
      ((sent .assignUnit .office [0x0B, 0xFF] { demo with cursor := some 1 }).unit 3071).arm = .disarmed ∧
      ((sent .assignUnit .office [0, 12] { demo with cursor := some 1 }).unit 12).arm = .alarm .openedVacant ∧
      ((sent .releaseUnit .office [0, 10] { demo with cursor := some 1 }).unit 10).arm = .vacant := by decide +kernel

theorem witness_TenantEditRefusals :
    result .tenantState .office [0] demo = .badArgument ∧ result .assignUnit .office [0x0C, 0] demo = .badArgument ∧
      result .tenantFree .office [] { demo with cursor := none } = .noSelection ∧
      result .tenantFree .office [] (loading .tenant []) = .busy ∧
      result .tenantFree .office [] { demo with cursor := some 0 } (key := false) = .isProtected ∧
      result .tenantState .office [3] demo = .state ∧ result .tenantFree .office [] { demo with cursor := some 1 } = .onSite ∧
      result .assignUnit .office [0, 10] { demo with cursor := some 1 } = .duplicate ∧
      result .assignUnit .office [0, 11] { demo with cursor := some 1 } = .unitTaken ∧
      result .assignUnit .office [0, 12]
        { demo with cursor := some 4, tenants := [(4, { TenantRecord.cold with state := .active, units := List.range 8 })] } =
        .listFull ∧
      result .releaseUnit .office [0, 11] { demo with cursor := some 1 } = .notFound := by decide +kernel

theorem witness_UnitFloorAndProfileWrite :
    demo.takes .office ∧ 3 ≤ [(0x0B : Byte), 0xFF, 15].length ∧
      result .unitFloor .office [0x0C, 0, 0] demo = .badArgument ∧
      result .unitFloor .office [0, 12, 1] (loading .unitFloor []) = .busy ∧
      result .unitFloor .office [0, 10, 1] demo = .unitTaken ∧ result .unitFloor .office [0x0B, 0xFF, 15] demo = .ok ∧
      result .profileWrite .office (16 :: List.replicate 17 0) demo = .badArgument ∧
      result .profileWrite .office (15 :: 2 :: List.replicate 16 0) demo = .badArgument ∧
      result .profileWrite .office (15 :: 1 :: 0x27 :: 0x60 :: List.replicate 14 0) demo = .badArgument ∧
      result .profileWrite .office (15 :: 1 :: 0x27 :: 0x5F :: List.replicate 14 0) demo = .ok :=
  ⟨demo_takes _, by decide +kernel⟩

theorem witness_RightsTableReads :
    demo.takes .office ∧ result .tenantRead .office [] { demo with cursor := none } = .noSelection ∧
      result .tenantRead .office [] demo = .ok ∧ result .unitRead .office [0x0C, 0] demo = .badArgument ∧
      result .unitRead .office [0x0B, 0xFF] demo = .ok ∧ result .profileRead .office [16] demo = .badArgument ∧
      result .profileRead .office [15] demo = .ok := ⟨demo_takes _, by decide +kernel⟩

/-- `demo` at a minute, second and phase. -/
def atTime (minute seconds : Nat) (phase : Phase) : State := { demo with clock := { minute, seconds, phase } }

theorem witness_SecondAndMinuteTicks :
    (atTime 10079 58 .opened).power.main = true ∧ (atTime 10079 58 .opened).clock.minute < 10080 ∧
      (after .secondTick (atTime 10079 58 .opened)).clock.seconds = 59 ∧
      (after .secondTick (atTime 10079 59 .opened)).clock = { minute := 0, seconds := 0, phase := .opened } ∧
      (after .minuteTick (atTime 1439 0 .opened)).clock.phase = .closing 2 ∧
      (after .minuteTick (atTime 1440 0 (.closing 2))).clock.phase = .closing 1 ∧
      (after .minuteTick (atTime 1440 0 (.closing 1))).clock.phase = .closed ∧
      (after .minuteTick (atTime 10079 0 .closed)).clock.phase = .opened ∧
      (after .minuteTick (atTime 1440 0 .closed)).clock.phase = .closed ∧
      (after .minuteTick { atTime 1439 0 .opened with params := [] }).clock.phase = .closed ∧
      (after .minuteTick { atTime 1439 0 .opened with power := ⟨false, true, false⟩ }).clock = ⟨1440, 0, .opened⟩ ∧
      (after .secondTick { atTime 1439 59 .opened with power := ⟨false, false, false⟩ }).clock = ⟨1439, 59, .opened⟩ := by
  decide +kernel

theorem witness_SetClock :
    demo.takes .office ∧ 2 ≤ [(0x27 : Byte), 0x60].length ∧ result .setClock .office [0x27, 0x60] demo = .badArgument ∧
      result .setClock .office [0x27, 0x5F] demo = .ok ∧
      (sent .setClock .office [0x05, 0x9F] demo).clock.phase = .opened ∧
      (sent .setClock .office [0x05, 0xA0] demo).clock.phase = .closing 2 ∧
      (sent .setClock .office [0x05, 0xA0] (atTime 0 0 .closed)).clock.phase = .closed ∧
      (sent .setClock .office [0, 0] (atTime 0 0 (.closing 1))).clock.phase = .opened ∧
      (sent .setClock .office [0x05, 0xA0] demo).roster.map (·.countdown) = [some 2, none] ∧
      ((sent .setClock .office [0x05, 0xA0] demo).channel 1).state = .passing := ⟨demo_takes _, by decide +kernel⟩

theorem witness_WindowLengthCountsItsMinutes :
    ([⟨0, 10079⟩, ⟨10079, 0⟩, ⟨5, 5⟩] : List Window).map (fun w => (decide (w.start < 10080 ∧ w.stop < 10080), w.length)) =
        [(true, 10079), (true, 1), (true, 0)] ∧
      ({ kind := .windowed, windows := [⟨0, 0⟩, ⟨10079, 1⟩] } : ProfileRecord).admits 0 = true := by decide +kernel

theorem witness_PresenceRemoveAndOverstayAck :
    let s : State := { demo with roster := [⟨1, 90, 2, .overstay, none⟩, ⟨0, 95, 0, .onSite, some 2⟩] }
    s.takes .office ∧ result .presenceRemove .office [8, 0] s = .badArgument ∧ s.isPresent 2047 = false ∧
      result .presenceRemove .office [7, 0xFF] s = .notFound ∧ s.presence 1 = some ⟨1, 90, 2, .overstay, none⟩ ∧
      (s.tenant 1).units.Nodup ∧ result .presenceRemove .office [0, 1] s = .ok ∧
      s.presence 0 = some ⟨0, 95, 0, .onSite, some 2⟩ ∧ result .overstayAck .office [8, 0] s = .badArgument ∧
      result .overstayAck .office [7, 0xFF] s = .notFound ∧ result .overstayAck .office [0, 0] s = .state ∧
      result .overstayAck .office [0, 1] s = .ok := ⟨⟨rfl, rfl⟩, by decide +kernel⟩

theorem witness_OfficeTableReads :
    demo.takes .office ∧ result .rosterRead .office [0, 0] demo = .badArgument ∧ result .rosterRead .office [0, 17] demo = .badArgument ∧
      result .rosterRead .office [255, 16] demo = .ok ∧ result .channelRead .office [16] demo = .badArgument ∧
      result .channelRead .office [15] demo = .ok ∧ result .paramRead .office [52] demo = .badArgument ∧
      result .paramRead .office [51] demo = .ok := ⟨demo_takes _, by decide +kernel⟩

theorem witness_UnitContactReport :
    demo.takes .field ∧ result .unitContact .field [0x0C, 0, 1] demo = .badArgument ∧
      result .unitContact .field [0x0B, 0xFF, 2] demo = .badArgument ∧ result .unitContact .field [0, 10, 0] demo = .ok ∧
      lastEvents 1 (sent .unitContact .field [0, 10, 1] demo) = [.unitOpened 10 (some 1)] ∧
      lastEvents 1 (sent .unitContact .field [0x0B, 0xFF, 1] demo) = [.unitAlarm .openedVacant 3071 none] :=
  ⟨demo_takes _, by decide +kernel⟩

theorem witness_UnitAckAndService :
    demo.takes .office ∧ (demo.unit 12).arm = .alarm .openedVacant ∧ demo.isTarget 12 .vacant ∧
      result .unitAck .office [0x0C, 0] demo = .badArgument ∧ result .unitAck .office [0, 10] demo = .state ∧
      result .unitAck .office [0, 12] demo = .ok ∧
      result .unitAck .office [0, 12] (sent .unitContact .field [0, 12, 1] demo) = .contactOpen ∧
      result .unitService .office [0, 12, 2] demo = .badArgument ∧ result .unitService .office [0x0C, 0, 1] demo = .badArgument ∧
      result .unitService .office [0, 12, 1] demo = .ok ∧ result .unitService .office [0, 12, 0] demo = .state ∧
      result .unitService .office [0, 12, 1] (sent .unitService .office [0, 12, 1] demo) = .state ∧
      ((sent .unitService .office [0, 11, 0] (sent .unitService .office [0, 11, 1] demo)).unit 11).arm =
        .alarm .openedOverlocked :=
  ⟨demo_takes _, by decide +kernel, rfl, by decide +kernel⟩

theorem witness_StationOnlineAndOffline :
    demo.takes .field ∧ result .stationOnline .field [64] demo = .badArgument ∧ result .stationOnline .field [63] demo = .state ∧
      result .stationOnline .field [62] demo = .ok ∧ result .stationOffline .field [64] demo = .badArgument ∧
      result .stationOffline .field [62] demo = .state ∧ result .stationOffline .field [1] demo = .ok ∧
      ((sent .stationOffline .field [0] demo).channel 0).carried = none ∧
      lastEvents 1 (sent .stationOffline .field [63] demo) = [.passageAbandoned .offline 63 (some 0)] :=
  ⟨demo_takes _, by decide +kernel⟩

theorem witness_PresentationsAndQueriesAreBuffered :
    demo.takes .field ∧ demo.takes .lift ∧ result .present .field [1, 0x20, 0, 0, 0, 5] demo = .badArgument ∧
      result .present .field [64, 0x10, 0, 0, 0, 5] demo = .badArgument ∧
      result .present .field [62, 0x10, 0, 0, 0, 5] demo = .offline ∧ result .present .field [63, 0x10, 0, 0, 0, 5] demo = .slotBusy ∧
      result .present .field [3, 0x10, 0, 0, 0, 5] demo = .state ∧ result .present .field [1, 0x10, 0, 0, 0, 5] demo = .ok ∧
      (sent .present .field [0x81, 0x10, 0, 0, 0, 5] demo).field.repeating = true ∧
      result .carQuery .lift [0, 0x20, 0, 0, 0, 5, 2] demo = .badArgument ∧
      result .carQuery .lift [4, 0x10, 0, 0, 0, 5, 2] demo = .badArgument ∧
      result .carQuery .lift [0, 0x10, 0, 0, 0, 5, 16] demo = .badArgument ∧
      result .carQuery .lift [3, 0x10, 0, 0, 0, 5, 2] demo = .slotBusy ∧
      result .carQuery .lift [2, 0x10, 0, 0, 0, 5, 15] demo = .ok := ⟨demo_takes _, demo_takes _, by decide +kernel⟩

theorem witness_VerdictAndCarFetch_ends :
    let field := piece .verdictFetch .field .opening [0] demo
    let lift := piece .carFetch .lift .opening [3] demo
    field.takes .field ∧ field.field.assembly = some
        { wire := commandCode .verdictFetch :: [0], status := 0x21, sample := some (sampleOf .verdictFetch [0] demo) } ∧
      (sampleOf .verdictFetch [0] demo).result = .ok ∧ (sampleOf .verdictFetch [0] demo).fetch = some 0 ∧
      (((piece .verdictFetch .field .closing [] field).station 0).verdict.map (·.unfetched)) = some false ∧
      lift.takes .lift ∧ lift.lift.assembly = some
        { wire := commandCode .carFetch :: [3], status := 0x21, sample := some (sampleOf .carFetch [3] demo) } ∧
      (sampleOf .carFetch [3] demo).result = .ok ∧ (sampleOf .carFetch [3] demo).fetch = some 3 ∧
      (((piece .carFetch .lift .closing [] lift).car 3).verdict.map (·.unfetched)) = some false ∧
      (sampleOf .carFetch [2] demo).result = .state ∧ (sampleOf .carFetch [2] demo).fetch = none := by
  unfold State.takes; decide +kernel

theorem witness_VerdictAndCarFetch :
    demo.takes .field ∧ demo.takes .lift ∧ (demo.car 3).verdict = some kept ∧
      result .verdictFetch .field [64] demo = .badArgument ∧ result .verdictFetch .field [63] demo = .state ∧
      result .verdictFetch .field [0] demo = .ok ∧ result .carFetch .lift [4] demo = .badArgument ∧
      result .carFetch .lift [2] demo = .state ∧ result .carFetch .lift [3] demo = .ok :=
  ⟨demo_takes _, demo_takes _, by decide +kernel⟩

/-! ### Decisions -/

theorem asking_next {n : Nat} {c : Credential} {type : StationType} {floor : Nat} {channel : Option Nat} (h : n < 64) :
    (asking n c type floor channel).nextStation n { credential := c, config := { type, floor, channel } } := by
  refine ⟨fun k _ q hq => ?_, h, ?_, fun k hk q hq => ?_⟩
  · simp [asking, State.car, Table.get, CarSlot.cold] at hq
  · simp [asking, State.station, Table.get]
  · have : n ≠ k := by omega
    simp [asking, State.station, Table.get, this, StationSlot.cold] at hq

theorem calling_next {n : Nat} {c : Credential} {floor : Nat} (h : n < 4) :
    (calling n c floor).nextCar n { credential := c, floor } := by
  refine ⟨h, by simp [calling, State.car, Table.get], fun k hk q hq => ?_⟩
  have : n ≠ k := by omega
  simp [calling, State.car, Table.get, this, CarSlot.cold] at hq

theorem asking_credentialLaw {n : Nat} {c : Credential} {type : StationType} {floor : Nat} {channel : Option Nat} :
    (asking n c type floor channel).credentialLaw := demo_credentialLaw

/-- The tenants of the credentials asked with below. -/
theorem demo_requestTenants :
    demo.requestTenant (.card 5) (some 0) ∧ demo.requestTenant (.keypad 4 123) (some 1) ∧
      demo.requestTenant (.keypad 5 123) (some 2) ∧ demo.requestTenant (.card 9) none :=
  ⟨requestTenant_some (by decide +kernel), requestTenant_some (by decide +kernel), requestTenant_some (by decide +kernel),
    requestTenant_none_of_listed (by decide +kernel)⟩

theorem witness_EntryDecision :
    let s := asking 63 (.card 5) .entry 0 (some 3)
    s.running = true ∧ s.nextStation 63 ⟨.card 5, ⟨.entry, 0, some 3⟩⟩ ∧ s.credentialLaw ∧ s.requestTenant (.card 5) (some 0) ∧
      s.entryDenial ⟨.card 5, ⟨.entry, 0, some 3⟩⟩ (some 0) = none ∧
      (asking 63 (.card 9) .entry 0 (some 2)).entryDenial ⟨.card 9, ⟨.entry, 0, some 2⟩⟩ none = some .unknown ∧
      (asking 63 (.card 5) .entry 0 (some 2)).entryDenial ⟨.card 5, ⟨.entry, 0, some 2⟩⟩ (some 0) = some .gateLocked :=
  ⟨rfl, asking_next (by decide), asking_credentialLaw, demo_requestTenants.1, by decide +kernel, by decide +kernel,
    by decide +kernel⟩

theorem witness_ExitDecision :
    let s := asking 0 (.card 9) .exit 0 (some 0)
    s.running = true ∧ s.nextStation 0 ⟨.card 9, ⟨.exit, 0, some 0⟩⟩ ∧ s.credentialLaw ∧ s.requestTenant (.card 9) none ∧
      s.exitDenial ⟨.card 9, ⟨.exit, 0, some 0⟩⟩ none = some .unknown ∧
      s.exitDenial ⟨.card 5, ⟨.exit, 0, some 0⟩⟩ (some 0) = none :=
  ⟨rfl, asking_next (by decide), asking_credentialLaw, demo_requestTenants.2.2.2, by decide +kernel, by decide +kernel⟩

theorem witness_ZoneDecision :
    let s := asking 2 (.keypad 4 123) .zone 2 none
    s.running = true ∧ s.nextStation 2 ⟨.keypad 4 123, ⟨.zone, 2, none⟩⟩ ∧ s.credentialLaw ∧
      s.requestTenant (.keypad 4 123) (some 1) ∧ s.zoneDenial ⟨.keypad 4 123, ⟨.zone, 2, none⟩⟩ (some 1) = none ∧
      s.zoneDenial ⟨.keypad 4 123, ⟨.zone, 15, none⟩⟩ (some 1) = some .floor ∧
      s.zoneDenial ⟨.keypad 5 123, ⟨.zone, 2, none⟩⟩ (some 2) = some .notOnSite :=
  ⟨rfl, asking_next (by decide), asking_credentialLaw, demo_requestTenants.2.1, by decide +kernel, by decide +kernel,
    by decide +kernel⟩

theorem witness_CarDecision :
    let s := calling 3 (.card 5) 15
    s.running = true ∧ s.nextCar 3 ⟨.card 5, 15⟩ ∧ s.credentialLaw ∧ s.requestTenant (.card 5) (some 0) ∧
      s.carDenial ⟨.card 5, 15⟩ (some 0) = none ∧ s.carDenial ⟨.card 9, 15⟩ none = some .unknown :=
  ⟨rfl, calling_next (by decide), demo_credentialLaw, demo_requestTenants.1, by decide +kernel, by decide +kernel⟩

theorem loading_next (kind : LoadKind) (r : LoadRecord) : (loading kind [r]).nextRecord r [] :=
  ⟨cars_idle_of_listed (by rintro a ha q; fin_cases ha; simp), stations_idle_of_listed (by rintro a ha q; fin_cases ha <;> simp),
    rfl⟩

theorem witness_ServiceOrder :
    (calling 3 (.card 5) 15).nextCar 3 ⟨.card 5, 15⟩ ∧
      (asking 63 (.card 5) .entry 0 none).nextStation 63 ⟨.card 5, ⟨.entry, 0, none⟩⟩ ∧
      (loading .unitFloor [.floor 15]).nextRecord (.floor 15) [] ∧ demo.noWork :=
  ⟨calling_next (by decide), asking_next (by decide), loading_next _ _, (loading_next .unitFloor (.floor 15)).1,
    (loading_next .unitFloor (.floor 15)).2.1, rfl⟩

theorem witness_LoaderExamination :
    let d : TenantDetails := { role := .tenant, extended := false, credential := .card 9, profile := 15 }
    let s := loading .tenant [.tenant d [3071]]
    let t := { loading .unitFloor [.floor 15] with
      loader := { (loading .unitFloor [.floor 15]).loader with nextTarget := 10, committed := 3 } }
    s.running = true ∧ s.nextRecord (.tenant d [3071]) [] ∧ t.nextRecord (.floor 15) [] ∧ demo.requestTenant (.card 9) none ∧
      s.isPresent 3 = false ∧ (s.unit 3071).tenant = none ∧ (after (.loaderExamine false) s).loader.committed = 1 ∧
      (after (.loaderExamine false) (loading .tenant [.tenant d [3072]])).loader.skipped = 1 ∧
      lastEvents 1 (after (.loaderExamine true) t) = [.loadDone .unitFloor 3 1] :=
  ⟨rfl, loading_next _ _, loading_next .unitFloor _, demo_requestTenants.2.2.2, by decide +kernel⟩

/-! ### Passages, trips and channels -/

theorem witness_PassagesEndByTheField :
    demo.takes .field ∧ demo.running = true ∧ (demo.station 63).state = .passage leaving ∧ leaving.channel = none ∧
      leaving.governor = .window 5000000 ∧ (∀ i, (demo.tenant i).units.Nodup) ∧
      result .passed .field [64] demo = .badArgument ∧ result .passed .field [0] demo = .state ∧
      result .passed .field [63] demo = .ok ∧ result .noPassage .field [64] demo = .badArgument ∧
      result .noPassage .field [0] demo = .state ∧ result .noPassage .field [63] demo = .ok ∧
      lastEvents 1 (after (.passageWindowDeadline 63) demo) = [.passageAbandoned .timeout 63 (some 0)] :=
  ⟨demo_takes _, rfl, by decide +kernel, rfl, rfl, demo_nodup, by decide +kernel⟩

theorem witness_TripsEnd :
    demo.takes .lift ∧ (demo.car 3).state = .trip rising ∧ result .carAlight .lift [4] demo = .badArgument ∧
      result .carAlight .lift [2] demo = .state ∧ result .carAlight .lift [3] demo = .ok ∧
      result .carCancel .lift [4] demo = .badArgument ∧ result .carCancel .lift [2] demo = .state ∧
      result .carCancel .lift [3] demo = .ok ∧
      lastEvents 1 (after (.tripDeadline 3) demo) = [.tripAbandoned .timeout 3 (some 0)] := ⟨demo_takes _, by decide +kernel⟩

theorem witness_EgressRequestAndGatePulse :
    demo.takes .office ∧ (demo.channel 15).egress = false ∧ (after (.egressRequest 15 true) demo).channel 15 ≠ demo.channel 15 ∧
      ((after (.egressRequest 15 true) demo).channel 15).egress = true ∧
      ((after (.egressRequest 0 true) demo).channel 0).releaseTimer = some 3000000 ∧
      result .gatePulse .office [16] demo = .badArgument ∧ result .gatePulse .office [15] demo = .state ∧
      result .gatePulse .office [3] demo = .ok ∧ result .gatePulse .office [0] demo = .ok := ⟨demo_takes _, by decide +kernel⟩

/-- `demo` with channel 0 as given. -/
def withGate (x : Channel) (p : Passage) : State :=
  { demo with channels := [(0, x), (1, unlocked), (3, unlocked)], stations := [(0, { state := .passage p, verdict := none })] }

theorem witness_GateContactEvents :
    let x : Channel := { released with state := .passing, gateOpen := true, heldOpenTimer := some 10000000 }
    demo.running = true ∧ (demo.channel 0).gateOpen = false ∧ (demo.channel 0).carried = some 0 ∧
      (demo.station 0).state = .passage entering ∧ (demo.channel 15).gateOpen = false ∧ (demo.channel 15).carried = none ∧
      (demo.channel 1).gateOpen = true ∧ (demo.channel 1).carried = none ∧
      let s := withGate x { entering with opened := true }
      (s.channel 0).gateOpen = true ∧ (s.channel 0).carried = some 0 ∧
      (s.station 0).state = .passage { entering with opened := true } ∧ entering.channel = some 0 := by decide +kernel

theorem witness_GateContactEvents_units (i : Nat) : ((withGate released entering).tenant i).units.Nodup := demo_nodup i

theorem demo_channelLaw : demo.channelLaw :=
  channelLaw_of_listed (by rintro a ha; fin_cases ha <;> simp [Channel.lawful, released, unlocked])
theorem demo_carriedLaw : demo.carriedLaw :=
  carriedLaw_of_listed (by
    rintro a ha n hn
    fin_cases ha <;> simp [released, unlocked] at hn
    subst hn
    exact ⟨by decide, entering, by decide +kernel, rfl⟩)

theorem witness_ChannelTimersExpire :
    demo.running = true ∧ demo.channelLaw ∧ (demo.channel 15).releaseTimer = none ∧ (demo.channel 0).releaseTimer ≠ none ∧
      (demo.channel 0).carried = some 0 ∧ (demo.station 0).state = .passage entering ∧ entering.governor = .release ∧
      entering.opened = false ∧ entering.channel = some 0 ∧
      lastEvents 1 (after (.releaseTimerExpiry 0) demo) = [.passageAbandoned .noOpen 0 (some 1)] ∧
      (let s := withGate { released with state := .passing, gateOpen := true, heldOpenTimer := some 1 } entering
       (s.channel 0).heldOpenTimer ≠ none ∧ (s.channel 0).state = .passing ∧
         lastEvents 1 (after (.heldOpenTimerExpiry 0) s) = [.gatePropped 0]) ∧ (demo.channel 15).heldOpenTimer = none :=
  ⟨rfl, demo_channelLaw, by decide +kernel⟩

theorem witness_ChannelTimersExpire_carriesNothing :
    let s : State := { demo with channels := [(0, { released with carried := none })] }
    s.channelLaw ∧ (s.channel 0).releaseTimer ≠ none ∧ (s.channel 0).carried = none :=
  ⟨channelLaw_of_listed (by rintro a ha; fin_cases ha; simp [Channel.lawful, released]), by decide +kernel⟩

theorem witness_StrikeOutputsAndPeriodStart :
    demo.strike.duty ≤ 255 ∧ demo.running = true ∧ (demo.channel 0).drive = .pick ∧ (demo.channel 1).drive = .hold ∧
      (demo.channel 15).drive = .off ∧ ({ demo with power := { demo.power with rst := true } } : State).running = false ∧
      demo.strikeOutput 1 254 = true ∧ demo.strikeOutput 1 255 = false := by decide +kernel

theorem witness_SupplySampleAndDuty :
    demo.running = true ∧ [119, 120, 240, 1023].map (fun v => (after (.supplySample v) demo).strike.nextDuty) =
      [none, some 255, some 255, some 60] ∧ 0 < 120 := by decide +kernel

/-! ### Loads, parameters and modes -/

theorem witness_LoadCommands :
    demo.takes .office ∧ (loading .tenant []).takes .office ∧ (loading .unitFloor []).takes .office ∧
      result .loadBegin .office [2, 0, 0, 0, 1] demo = .badArgument ∧ result .loadBegin .office [0, 8, 0, 0, 1] demo = .badArgument ∧
      result .loadBegin .office [1, 0x0B, 0xFF, 0, 1] (loading .tenant []) = .busy ∧
      result .loadBegin .office [0, 7, 0xFF, 0, 1] { demo with control := { demo.control with tableFault := true } } =
        .tableFault ∧
      result .loadBegin .office [0, 7, 0xFF, 0xFF, 0xFF] demo = .ok ∧ result .loadAbort .office [] demo = .state ∧
      result .loadAbort .office [] (loading .tenant []) = .ok ∧ result .loadData .office [] demo = .state ∧
      result .loadData .office [16] (loading .unitFloor []) = .badArgument ∧
      result .loadData .office [15] (loading .unitFloor [.floor 0, .floor 1, .floor 2]) = .ok ∧
      result .loadData .office [15] (loading .unitFloor [.floor 0, .floor 1, .floor 2, .floor 3]) = .state ∧
      result .loadData .office [0, 0x10, 0, 0, 0, 0, 9, 1, 0x0B, 0xFF] (loading .tenant []) = .ok ∧
      result .loadData .office [0, 0x10, 16, 0, 0, 0, 9, 0] (loading .tenant []) = .badArgument ∧
      result .loadData .office ([0, 0x10, 15, 0, 0, 0, 9, 9] ++ List.replicate 18 0) (loading .tenant []) = .badArgument :=
  ⟨demo_takes _, ⟨rfl, rfl⟩, ⟨rfl, rfl⟩, by decide +kernel⟩

/-- `demo` in FALLBACK. -/
def fallback : State := { demo with control := { demo.control with mode := .fallback } }

theorem witness_ModeCommandsAndEditWindow :
    demo.takes .office ∧ editing.takes .office ∧ demo.blockGood = true ∧ result .fallbackEnter .office [] demo = .ok ∧
      result .fallbackRelease .office [] demo = .state ∧ result .fallbackRelease .office [] fallback = .ok ∧
      result .fallbackRelease .office [] { fallback with window := some 1 } = .state ∧
      result .fallbackRelease .office [] { fallback with control := { fallback.control with tableFault := true } } = .tableFault ∧
      result .fallbackRelease .office [] { fallback with params := [] } = .sumBad ∧ result .paramOpen .office [] demo = .ok ∧
      result .paramOpen .office [] editing = .state ∧ result .paramClose .office [] demo = .state ∧
      result .paramClose .office [] editing = .ok ∧ result .paramClose .office [] { editing with params := [] } = .sumBad ∧
      lastEvents 2 (after .editWindowExpiry { editing with params := [] }) = [.paramFault .expiry 0, .mode .expiry .fallback] ∧
      lastEvents 2 (after .integritySweep { demo with params := [] }) = [.paramFault .sweep 0, .mode .sweep .fallback] :=
  ⟨demo_takes _, ⟨rfl, rfl⟩, by decide +kernel⟩

theorem witness_ParamWrite :
    demo.takes .office ∧ editing.takes .office ∧ result .paramWrite .office [52, 0, 0, 0, 0] editing = .badArgument ∧
      result .paramWrite .office [51, 0, 0, 0, 0] demo = .state ∧
      result .paramWrite .office [0, 1, 64, 2, 120] editing (key := false) = .isProtected ∧
      (sent .paramWrite .office [0, 1, 1, 3, 121] editing (key := false)).param 0 = 0x01010278 ∧
      [1, 7, 8, 9, 10, 11, 14, 15, 46, 47, 50, 51].map (fun w => (sent .paramWrite .office [w, 0xFF, 0xFF, 0xFF, 0xFF] editing).param w.toNat) =
        [0x05A005A0, 0x05A005A0, 0x007800FA, 0x02580258, 0x03E80064, 0xFFFFFFFF, 0xFFFFFFFF, 0x1FF31FF3, 0x1FF31FF3,
          0x07070707, 0x07070707, 0xFFFFFFFF] := ⟨demo_takes _, ⟨rfl, rfl⟩, by decide +kernel⟩

theorem witness_ModeByteWritesActAtOnce :
    editing.takes .office ∧ 5 ≤ [(47 : Byte), 0, 0, 0, 0].length ∧ natAt [47, 0, 0, 0, 0] 0 = 47 ∧ editing.window ≠ none ∧
      editing.carriedLaw ∧ (editing.channel 0).carried = some 0 ∧ (editing.station 0).state = .passage entering ∧
      let t := sent .paramWrite .office [47, 1, 1, 1, 3] editing
      (t.channel 0).state = .unlocked ∧ (t.channel 1).state = .passing ∧ t.channel 2 = editing.channel 2 ∧
      (t.channel 3).state = .passing ∧
      let u := sent .paramWrite .office [47, 0, 0, 0, 0] editing
      (u.channel 0).state = .secure ∧ (u.station 0).state ≠ .passage entering :=
  ⟨⟨rfl, rfl⟩, by decide, rfl, by decide, demo_carriedLaw, by decide +kernel⟩

theorem witness_FireInputAndFireClear :
    let lit (live latch : Bool) : State := { demo with control := { demo.control with fireLive := live, fireLatch := latch } }
    demo.running = true ∧ demo.carriedLaw ∧ demo.channelLaw ∧ demo.control.fireLive = false ∧ demo.control.fireLatch = false ∧
      demo.fireSecure 15 = false ∧ lastEvents 1 (after .fireInputActive (lit false true)) = [.fireOn] ∧
      lastEvents 1 (after .fireInputInactive (lit true true)) = [.fireOff] ∧
      result .fireClear .office [] (lit true true) = .state ∧ result .fireClear .office [] demo = .state ∧
      lastEvents 1 (sent .fireClear .office [] (lit false true)) = [.fireCleared] :=
  ⟨rfl, demo_carriedLaw, demo_channelLaw, by decide +kernel⟩

theorem witness_ReadState : demo.takes .field ∧ demo.loader.buffer.length ≤ 4 ∧
    (shifted .readState .field (List.replicate 26 0) demo).length = 27 := ⟨demo_takes _, by decide +kernel⟩

theorem demo_logLaw : demo.logLaw := by
  refine ⟨by decide, fun k r hr => ?_⟩
  rcases k with _ | k
  · cases hr; rfl
  · exact absurd hr (by simp [demo, State.reset])

theorem witness_LogAppendAndRead :
    demo.takes .office ∧ 1 ≤ [(16 : Byte)].length ∧ result .logRead .office [0] demo = .badArgument ∧
      result .logRead .office [17] demo = .badArgument ∧ result .logRead .office [16] demo = .ok ∧
      (sent .logRead .office (1 :: List.replicate 9 0) demo).log.records = demo.log.records ∧
      (sent .logRead .office (1 :: List.replicate 10 0) demo).log.records = [] ∧
      let opened := piece .logRead .office .opening [1] demo
      opened.takes .office ∧ opened.office.assembly = some
        { wire := commandCode .logRead :: [1], status := 0x21, sample := some (sampleOf .logRead [1] demo) } :=
  ⟨demo_takes _, by unfold State.takes; decide +kernel⟩

/-- A record appended between the sampling and the end, at a log with room and at a full one. -/
theorem witness_LogAppendAndRead_between :
    let t := (piece .logRead .office .opening [16] demo).append .siteOpen
    1 ≤ natAt [16] 0 ∧ natAt [16] 0 ≤ 16 ∧
      t.log = [(100, Event.siteOpen)].foldl (fun g e => g.append e.1 e.2) demo.log ∧ t.takes .office ∧
      t.office.assembly =
        some { wire := commandCode .logRead :: [16], status := 0x21, sample := some (sampleOf .logRead [16] demo) } ∧
      (piece .logRead .office .closing (List.replicate 160 0) t).log.records.map (·.event) = [.siteOpen] ∧
      ({ records := List.replicate 512 ⟨0, 0, false, .siteOpen⟩, next := 0, discards := 7 } : Log).discards + 1 =
        (Log.append { records := List.replicate 512 ⟨0, 0, false, .siteOpen⟩, next := 0, discards := 7 } 0 .siteOpen).discards := by
  unfold State.takes; decide +kernel

theorem witness_ResetsSetClearAndKeep :
    demo.power.retention = true ∧ demo.power.main = true ∧ demo.takes .office ∧
      ({ demo with power := { main := false, retention := false, rst := false } } : State).power.retention = false ∧
      ∃ t, exec (.retentionReset (levels false) true) demo = .next t := ⟨rfl, rfl, demo_takes _, rfl, _, rfl⟩

theorem witness_RestartRule :
    demo.power.retention = true ∧ demo.power.main = true ∧ demo.takes .office ∧
      (after (.pinReset { levels false with fire := true, gate := 0x8001 }) demo).control =
        { mode := .normal, fireLive := true, fireLatch := true, tableFault := false, resetCause := .pin } ∧
      (after (.retentionReset (levels false) false) demo).control.tableFault = true := ⟨rfl, rfl, demo_takes _, by decide +kernel⟩

theorem witness_PowerAndRst :
    ({ demo with power := { demo.power with main := false } } : State).power.main = false ∧
      ({ demo with power := { demo.power with rst := true } } : State).running = false ∧ reachesHeld .fireInputActive = false := by
  decide

/-! ### Invariants and transition laws -/

theorem demo_pairing : demo.pairingLaw ∧ demo.freeLaw ∧ demo.bufferLaw :=
  ⟨pairingLaw_of_listed (by decide +kernel) (by decide +kernel), freeLaw_of_listed (by decide +kernel),
    fun d us h => absurd h (by simp [demo, State.reset])⟩

theorem witness_RightsTablesKeepTheirLaws :
    demo.credentialLaw ∧ (demo.pairingLaw ∧ demo.freeLaw ∧ demo.bufferLaw) ∧
      ∃ t, exec (.tenantWrite (whole .office (card 7) (levels true))) demo = .next t :=
  ⟨demo_credentialLaw, demo_pairing, _, rfl⟩

theorem witness_DisarmedOnlyWhilePresent :
    demo.armingLaw ∧ demo.presentLaw ∧ ∃ t, exec (.gateContactOpen 0) demo = .next t :=
  ⟨armingLaw_of_listed (by decide +kernel), by unfold State.presentLaw; decide +kernel, _, rfl⟩

theorem witness_RosterKeepsItsLaws :
    demo.rosterLaw ∧ demo.reservationLaw ∧ demo.countdownLaw ∧ demo.clockLaw ∧
      ∃ t, exec .minuteTick demo = .next t := by
  refine ⟨⟨by decide +kernel, by decide +kernel, fun c n h => (demo_carriedLaw c n h).1⟩,
    by unfold State.reservationLaw; decide +kernel, ?_, ?_, _, rfl⟩
  · intro p hp n hn; fin_cases hp <;> simp at hn
  · exact ⟨by decide, by decide, fun g hg => absurd hg (by simp [demo, State.reset])⟩

theorem witness_UnlockedExactlyInTheUnlockedCondition :
    demo.unlockedLaw ∧ demo.lockedLaw ∧ demo.running = true ∧ ∃ t, exec .fireInputActive demo = .next t :=
  ⟨by intro _; decide +kernel, by unfold State.lockedLaw; decide +kernel, rfl, _, rfl⟩

theorem witness_ChannelsKeepTheirLaws :
    demo.channelLaw ∧ demo.carriedLaw ∧ demo.rangeLaw ∧ (∃ t, exec (.gateContactOpen 0) demo = .next t) ∧
      (after .pwmPeriodStart (after (.supplySample 300) demo)).strike.duty = 205 :=
  ⟨demo_channelLaw, demo_carriedLaw,
    rangeLaw_of_listed (by decide +kernel) (by rintro a ha q hq; fin_cases ha <;> cases hq), ⟨_, rfl⟩, by decide +kernel⟩

theorem witness_LoaderLogAndBlockKeepTheirLaws :
    let s := loading .unitFloor [.floor 15]
    s.loaderLaw ∧ s.logLaw ∧ s.paramLaw ∧ s.sweepLaw ∧ s.control.mode = .normal ∧ s.window = none ∧
      ∃ t, exec (.loaderExamine false) s = .next t :=
  ⟨⟨by decide, by decide, by decide⟩, demo_logLaw, fun _ _ => by decide +kernel, by unfold State.sweepLaw; decide, rfl, rfl, _, rfl⟩

theorem demo_canonical : demo.canonical := by refine ⟨?_, ?_, ?_, ?_, ?_, ?_, ?_⟩ <;> decide +kernel

theorem witness_CollectionsStayCanonical :
    demo.canonical ∧ demo.portLaw ∧ ∃ t, exec (.unitFloor (whole .office [0, 12, 1] (levels false))) demo = .next t :=
  ⟨demo_canonical, rfl, _, rfl⟩

theorem witness_ProtectedSlotsNeedTheKey :
    let i := Instr.tenantFree (whole .office [] (levels false))
    keyActive i = false ∧ makesCold i demo = false ∧ demo.protectedCount = 1 ∧ ∃ t, exec i demo = .next t :=
  ⟨rfl, rfl, by decide +kernel, _, rfl⟩

theorem witness_EnrolmentCountsDeparturesFromFree :
    let i := Instr.tenantWrite (whole .office (card 7) (levels true))
    makesCold i demo = false ∧ (demo.tenant 3).state = .free ∧ ∃ t, exec i demo = .next t := ⟨rfl, by decide +kernel, _, rfl⟩

theorem witness_GrantsObeyTheEngineLaw :
    let s := asking 63 (.card 5) .entry 0 none
    (∃ t, exec .entryDecision s = .next t) ∧ ((after .entryDecision s).station 63).reservation.isSome = true ∧
      ((after .carDecision (calling 3 (.card 5) 15)).car 3).reservation.isSome = true ∧
      (let t : State := { s with params := (11, 0x00000002) :: s.params, roster := [⟨1, 90, 0, .onSite, none⟩] }
       t.floorLimit 0 = 2 ∧ t.occupancy 0 = 1 ∧ (after .entryDecision t).occupancy 0 = 2) :=
  ⟨⟨_, rfl⟩, by decide +kernel⟩

theorem witness_LatchAndTableFaultHold :
    let s : State := { demo with control := { demo.control with fireLive := true, fireLatch := true, tableFault := true } }
    s.control.fireLive = true ∧ s.control.fireLatch = true ∧ s.control.tableFault = true ∧
      (after (.coldReset (levels false) true) s).control.tableFault = false ∧
      result .fireClear .office [] s = .state := by decide +kernel

theorem witness_RefusedCommandsChangeNothing :
    demo.running = true ∧ result .releaseUnit .office [0, 11] demo ≠ .ok ∧ result .paramClose .office [] demo ≠ .sumBad := by
  decide +kernel

end

end Sys2Proof.Tests
end

section
/-! The write commands of the unit, profile and tenant tables (R13, R20, R21): each block's answer by its checks in order, then
the OFFICE frame that carries it. -/

namespace Sys2Proof.Machine

/-! ### Taking a whole write frame, by the block's answer -/

section
variable {s : State} {args : List Byte} {l : Lines}

/-- A whole OFFICE write frame that passes the checks of R170 and whose block answers `e`. -/
theorem exec_officeWrite (c : Command) {e : ResultCode × State} (h : s.takes .office) (hr : isRead c = false)
    (hp : permitted c .office = true) (ha : argumentBytes c s.loader args ≤ args.length) (he : runCommand c l args s = e) :
    exec (frameInstr c (whole .office args l)) s = .next (s.taken e.2 .office e.1 (args.length + 1)) :=
  he ▸ exec_write c h hr hp ha (by simp [repeatCommand])

end

/-- A load of the kind is active, as the statements say it (R147). -/
theorem State.loading_iff (s : State) (k : LoadKind) : s.loading k = true ↔ s.loader.active = true ∧ s.loader.kind = k := by
  simp [State.loading]

/-! ### UNIT FLOOR and PROFILE WRITE (R20, R21) -/

/-- UNIT FLOOR, by its checks in order (R20). -/
theorem runUnitFloor_eq (args : List Byte) (s : State) :
    runUnitFloor args s =
      if 3072 ≤ wordAt args 0 ∨ 16 ≤ natAt args 2 then (.badArgument, s)
      else if s.loader.active = true ∧ s.loader.kind = .unitFloor then (.busy, s)
      else if (s.unit (wordAt args 0)).tenant ≠ none then (.unitTaken, s)
      else (.ok, s.setUnit (wordAt args 0) { s.unit (wordAt args 0) with floor := natAt args 2 }) := by
  simp [runUnitFloor, State.loading_iff, Option.isSome_iff_ne_none, -not_le]

/-- The kind byte of a profile (11.7): every value of 2 or more is undefined. -/
theorem profileKindOf_byteAt (args : List Byte) (i : Nat) :
    profileKindOf (byteAt args i) = if 2 ≤ natAt args i then none else some (if natAt args i = 0 then .anytime else .windowed) := by
  show profileKindOf (byteAt args i) = if 2 ≤ (byteAt args i).toNat then _ else some (if (byteAt args i).toNat = 0 then _ else _)
  unfold profileKindOf
  match (byteAt args i).toNat with
  | 0 => rfl
  | 1 => rfl
  | n + 2 => simp

/-- The record that the bytes of a PROFILE WRITE spell (R21, 11.8): `profileOf_eq` says that it is the one read. -/
def carriedProfile (args : List Byte) : ProfileRecord :=
  { kind := if natAt args 1 = 0 then .anytime else .windowed
    windows := [⟨wordAt args 2, wordAt args 4⟩, ⟨wordAt args 6, wordAt args 8⟩, ⟨wordAt args 10, wordAt args 12⟩,
      ⟨wordAt args 14, wordAt args 16⟩] }

/-- What a PROFILE WRITE is refused for, and the record it carries else (R21). -/
theorem profileOf_eq (args : List Byte) :
    profileOf args =
      if 2 ≤ natAt args 1 ∨ ((List.range 8).any fun k => 10080 ≤ wordAt args (2 + 2 * k)) = true then none
      else some (carriedProfile args) := by
  have hmin : (wordsAt args 2 8).all (fun m => decide (m < Config.weekMinutes)) =
      !(List.range 8).any fun k => decide (10080 ≤ wordAt args (2 + 2 * k)) := by
    simp [wordsAt, List.all_map, List.not_any_eq_all_not, Function.comp_def, ← decide_not]
  rw [profileOf, profileKindOf_byteAt, hmin]
  by_cases hk : 2 ≤ natAt args 1
  · simp [hk]
  · rw [if_neg hk]
    cases (List.range 8).any fun k => decide (10080 ≤ wordAt args (2 + 2 * k)) with
    | true => simp
    | false => simp [hk]; rfl

/-- PROFILE WRITE, by its checks (R21). -/
theorem runProfileWrite_eq (args : List Byte) (s : State) :
    runProfileWrite args s =
      if 16 ≤ natAt args 0 ∨ 2 ≤ natAt args 1 ∨ ((List.range 8).any fun k => 10080 ≤ wordAt args (2 + 2 * k)) = true then
        (.badArgument, s)
      else (.ok, s.setProfile (natAt args 0) (carriedProfile args)) := by
  rw [runProfileWrite, profileOf_eq]
  by_cases hbad : 2 ≤ natAt args 1 ∨ ((List.range 8).any fun k => 10080 ≤ wordAt args (2 + 2 * k)) = true
  · rw [if_pos hbad, if_pos (.inr hbad)]
  · simp only [hbad, if_false, or_false, answer_cons, answer_nil, decide_eq_true_eq]

/-- Settles O13: each command's answer by its checks, carried through the OFFICE frame. -/
theorem unitFloorAndProfileWrite : Obligations.UnitFloorAndProfileWrite := by
  intro s l args h
  refine ⟨fun ha => ?_, fun ha => ?_⟩
  · refine (exec_officeWrite .unitFloor h rfl rfl ha (runUnitFloor_eq args s)).trans ?_
    split_ifs <;> rfl
  · refine (exec_officeWrite .profileWrite h rfl rfl ha (runProfileWrite_eq args s)).trans ?_
    split <;> rfl

/-! ### TENANT WRITE (R13) -/

/-- The role bits of the role-and-extended byte (11.7): every value of 2 or more is undefined. -/
theorem roleOf_byteAt (args : List Byte) (i : Nat) :
    roleOf (byteAt args i) =
      if 2 ≤ natAt args i % 4 then none else some (if natAt args i % 4 = 0 then .tenant else .staff) := by
  show roleOf (byteAt args i) =
    if 2 ≤ (byteAt args i).toNat % 4 then _ else some (if (byteAt args i).toNat % 4 = 0 then _ else _)
  unfold roleOf
  match (byteAt args i).toNat % 4 with
  | 0 => rfl
  | 1 => rfl
  | n + 2 => simp

/-- The details a TENANT WRITE carries, and what refuses them (R13). -/
theorem detailsAt_eq (args : List Byte) :
    detailsAt args 0 =
      if 2 ≤ natAt args 0 % 4 ∨ 16 ≤ natAt args 2 then none
      else (credentialOf (byteAt args 1) (longAt args 3)).map fun c =>
        { role := if natAt args 0 % 4 = 0 then .tenant else .staff, extended := (byteAt args 0).getLsbD 7, credential := c
          profile := natAt args 2 } := by
  rw [detailsAt, roleOf_byteAt]
  by_cases hr : 2 ≤ natAt args 0 % 4
  · simp [hr]
  · cases hc : credentialOf (byteAt args 1) (longAt args 3) with
    | none => simp [hr]
    | some c => by_cases hp : 16 ≤ natAt args 2 <;> simp [hr, hp, extendedOf, ← Nat.not_le]

theorem detailsAt_eq_none_iff (args : List Byte) :
    detailsAt args 0 = none ↔
      2 ≤ natAt args 0 % 4 ∨ credentialOf (byteAt args 1) (longAt args 3) = none ∨ 16 ≤ natAt args 2 := by
  rw [detailsAt_eq]
  by_cases h : 2 ≤ natAt args 0 % 4 ∨ 16 ≤ natAt args 2
  · rw [if_pos h]; tauto
  · rw [if_neg h, Option.map_eq_none_iff]; tauto

/-- What the carried details are, where they are taken. -/
theorem detailsAt_fields {args : List Byte} {d : TenantDetails} (h : detailsAt args 0 = some d) :
    d.role = (if natAt args 0 % 4 = 0 then .tenant else .staff) ∧ d.extended = (byteAt args 0).getLsbD 7 ∧
      credentialOf (byteAt args 1) (longAt args 3) = some d.credential ∧ d.profile = natAt args 2 := by
  rw [detailsAt_eq, Option.ite_none_left_eq_some, Option.map_eq_some_iff] at h
  obtain ⟨-, c, hc, rfl⟩ := h
  exact ⟨rfl, rfl, hc, rfl⟩

section
variable {s : State} {svckey : Bool} {args : List Byte} {d : TenantDetails}

theorem State.cursorSlot_some {i : Nat} (hc : s.cursor = some i) : s.cursorSlot = i := by simp [State.cursorSlot, hc]

/-- Another slot in use holds the credential, as the statements say it (R3). -/
theorem State.credentialTaken_eq (s : State) (c : Credential) (i : Nat) :
    s.credentialTaken c i =
      (List.range 2048).any fun j => j ≠ i ∧ (s.tenant j).state ≠ .free ∧ (s.tenant j).credential = c := by
  unfold State.credentialTaken State.holdsCredential
  congr 1
  funext j
  simp [bne, Bool.decide_and, beq_eq_decide]

/-- TENANT WRITE refuses details it cannot read before it looks at the cursor (R13). -/
theorem runTenantWrite_undefined (hd : detailsAt args 0 = none) : runTenantWrite svckey args s = (.badArgument, s) := by
  simp [runTenantWrite, hd]

theorem runTenantWrite_unselected (hd : detailsAt args 0 = some d) (hc : s.cursor = none) :
    runTenantWrite svckey args s = (.noSelection, s) := by
  simp [runTenantWrite, hd, State.editChecks, hc]

/-- TENANT WRITE at a selected slot, by the rest of its checks (R13). -/
theorem runTenantWrite_selected {i : Nat} (hd : detailsAt args 0 = some d) (hc : s.cursor = some i) :
    runTenantWrite svckey args s =
      if s.loader.active = true ∧ s.loader.kind = .tenant then (.busy, s)
      else if i < s.protectedCount ∧ svckey = false then (.isProtected, s)
      else if ((List.range 2048).any fun j => j ≠ i ∧ (s.tenant j).state ≠ .free ∧ (s.tenant j).credential = d.credential) then
        (.duplicate, s)
      else (.ok, s.setTenant i ((s.tenant i).write d)) := by
  simp only [runTenantWrite, hd, State.editChecks, State.cursorSlot_some hc, hc, List.cons_append, List.nil_append, answer_cons,
    answer_nil, State.credentialTaken_eq, State.loading_iff, State.isProtected, Option.isNone_some, Bool.false_eq_true, if_false,
    Bool.and_eq_true, decide_eq_true_eq, Bool.not_eq_true']

end

/-- Settles O9: what the details are, then the answer of the block by details and cursor, carried through the OFFICE frame. -/
theorem tenantWrite : Obligations.TenantWrite := by
  refine ⟨fun args => ⟨detailsAt_eq_none_iff args, fun d => detailsAt_fields⟩, fun s l args h ha => ?_⟩
  have hexec {e : ResultCode × State} (he : runTenantWrite l.svckey args s = e) :=
    exec_officeWrite .tenantWrite h rfl rfl ha he
  cases hd : detailsAt args 0 with
  | none => exact hexec (runTenantWrite_undefined hd)
  | some d =>
    cases hc : s.cursor with
    | none => exact hexec (runTenantWrite_unselected hd hc)
    | some i =>
      refine (hexec (runTenantWrite_selected hd hc)).trans ?_
      dsimp only
      split
      case isTrue busy => rfl
      split
      case isTrue isProtected => rfl
      split
      case isTrue duplicate => rfl
      case isFalse => rfl

end Sys2Proof.Machine
end

section
/-! What every event but a reset, SELECT TENANT and FIND TENANT is made of: the named writes of Machine/Ops.lean, the selection
cursor's own not among them. `Writes a s` says so, once for each operation of the blocks; what each write leaves alone, the whole
event leaves alone. -/

namespace Sys2Proof.Machine

/-! ### Named writes -/

/-- `s` is made from `a` by writes to anything but the selection cursor and the queue. -/
inductive Writes (a : State) : State → Prop
  | refl : Writes a a
  | setTenant {s : State} (h : Writes a s) (i : Nat) (r : TenantRecord) : Writes a (s.setTenant i r)
  | setUnit {s : State} (h : Writes a s) (u : Nat) (r : UnitRecord) : Writes a (s.setUnit u r)
  | setProfile {s : State} (h : Writes a s) (i : Nat) (r : ProfileRecord) : Writes a (s.setProfile i r)
  | setStation {s : State} (h : Writes a s) (n : Nat) (r : StationSlot) : Writes a (s.setStation n r)
  | setCar {s : State} (h : Writes a s) (n : Nat) (r : CarSlot) : Writes a (s.setCar n r)
  | setChannel {s : State} (h : Writes a s) (c : Nat) (r : Channel) : Writes a (s.setChannel c r)
  | setParam {s : State} (h : Writes a s) (w : Nat) (v : Word) : Writes a (s.setParam w v)
  | setPort {s : State} (h : Writes a s) (p : Port) (v : PortState) : Writes a (s.setPort p v)
  | setClock {s : State} (h : Writes a s) (k : Clock) : Writes a (s.setClock k)
  | setRoster {s : State} (h : Writes a s) (r : List Presence) : Writes a (s.setRoster r)
  | setStrike {s : State} (h : Writes a s) (k : Strike) : Writes a (s.setStrike k)
  | setLoader {s : State} (h : Writes a s) (l : Loader) : Writes a (s.setLoader l)
  | setControl {s : State} (h : Writes a s) (k : Control) : Writes a (s.setControl k)
  | setPower {s : State} (h : Writes a s) (p : Power) : Writes a (s.setPower p)
  | setLog {s : State} (h : Writes a s) (g : Log) : Writes a (s.setLog g)
  | setTimes {s : State} (h : Writes a s) (window sweep : Option Nat) (now fills : Nat) :
      Writes a { s with window, sweep, now, fills }

section
variable {a s : State}

/-- None of the writes moves the selection cursor. -/
theorem Writes.cursor_eq (h : Writes a s) : s.cursor = a.cursor := by
  induction h with
  | refl => rfl
  | setPort _ p v ih => rw [State.setPort_cursor]; exact ih
  | _ => assumption

theorem Writes.append (h : Writes a s) (e : Event) : Writes a (s.append e) := h.setLog _

theorem Writes.ite {c : Prop} [Decidable c] {t e : State} (ht : Writes a t) (he : Writes a e) :
    Writes a (if c then t else e) := by
  split
  exacts [ht, he]

theorem Writes.forEach {f : Nat → State → State} (hf : ∀ i s, Writes a s → Writes a (f i s)) (n : Nat) (h : Writes a s) :
    Writes a (s.forEach n f) := State.forEach_keeps hf n h

theorem Writes.foldl {β : Type} {f : State → β → State} (hf : ∀ s b, Writes a s → Writes a (f s b)) (bs : List β)
    (h : Writes a s) : Writes a (bs.foldl f s) := foldl_keeps hf bs h

/-- A block's answer leaves the state or makes its effect. -/
theorem Writes.answer {effect : State} (h : Writes s effect) (checks : List (Bool × ResultCode)) :
    Writes s (answer checks s effect).2 := by
  rcases answer_cases checks s effect with hs | he
  · rw [hs]; exact .refl
  · rw [he]; exact h

/-! ### Unit arming (chapter 6) -/

theorem Writes.setArm (h : Writes a s) (u : Nat) (x : ArmState) : Writes a (s.setArm u x) := h.setUnit _ _

theorem Writes.raiseAlarm (h : Writes a s) (u : Nat) (c : AlarmCause) : Writes a (s.raiseAlarm u c) := (h.setArm _ _).append _

theorem Writes.opening (h : Writes a s) (u : Nat) : Writes a (s.opening u) := by
  unfold State.opening
  split
  case h_1 | h_2 | h_3 => exact h.raiseAlarm _ _
  case h_4 => exact h.append _
  case h_5 | h_6 => exact h

theorem Writes.contactReport (h : Writes a s) (u : Nat) (c : Contact) : Writes a (s.contactReport u c) :=
  .ite h (.ite ((h.setUnit _ _).opening _) (h.setUnit _ _))

theorem Writes.entryHandoff (h : Writes a s) (slot : Nat) : Writes a (s.entryHandoff slot) :=
  .ite h (h.foldl (fun _ _ h => .ite (h.setArm _ _) h) _)

theorem Writes.exitUnit (h : Writes a s) (overlocked : Bool) (u : Nat) : Writes a (s.exitUnit overlocked u) :=
  .ite (.ite (h.raiseAlarm _ _) (h.setArm _ _)) h

theorem Writes.exitHandoff (h : Writes a s) (slot : Nat) : Writes a (s.exitHandoff slot) :=
  (h.foldl (fun _ _ h => h.exitUnit _ _) _).foldl (fun _ _ h => h.setUnit _ _) _

theorem Writes.overlockChange (h : Writes a s) (slot : Nat) (old new : TenantState) :
    Writes a (s.overlockChange slot old new) :=
  .ite (h.foldl (fun _ _ h => .ite (h.setArm _ _) h) _) (.ite (h.foldl (fun _ _ h => .ite (h.setArm _ _) h) _) h)

theorem Writes.assignArming (h : Writes a s) (u : Nat) : Writes a (s.assignArming u) := .ite h (h.setArm _ _)

theorem Writes.releaseArming (h : Writes a s) (u : Nat) : Writes a (s.releaseArming u) :=
  have h1 := h.setUnit u { s.unit u with visit := false }
  .ite h1 (.ite (h1.raiseAlarm _ _) (h1.setArm _ _))

theorem Writes.endService (h : Writes a s) (u : Nat) : Writes a (s.endService u) := by
  unfold State.endService
  split
  case h_1 | h_2 | h_3 => exact .ite (h.raiseAlarm _ _) (h.setArm _ _)
  case h_4 => exact h.setArm _ _

/-! ### Rights tables (chapter 1) -/

theorem Writes.releaseUnit (h : Writes a s) (u : Nat) : Writes a (s.releaseUnit u) := (h.setUnit _ _).releaseArming _

theorem Writes.freeTenant (h : Writes a s) (slot : Nat) : Writes a (s.freeTenant slot) :=
  (h.setTenant _ _).foldl (fun _ _ h => h.releaseUnit _) _

theorem Writes.assignUnit (h : Writes a s) (slot u : Nat) : Writes a (s.assignUnit slot u) :=
  ((h.setTenant _ _).setUnit _ _).assignArming _

/-! ### Roster (chapter 3) -/

theorem Writes.enter (h : Writes a s) (slot : Nat) : Writes a (s.enter slot) :=
  .ite (h.setRoster _) (.ite ((h.setRoster _).append _) (h.setRoster _))

theorem Writes.rosterComplete (h : Writes a s) (kind : CompletionKind) (slot dest : Nat) :
    Writes a (s.rosterComplete kind slot dest) := by
  cases kind with
  | entry => exact h.enter _
  | exit | zone | alight => exact h.setRoster _

theorem Writes.armingHandoff (h : Writes a s) (kind : CompletionKind) (slot : Nat) (wasPresent : Bool) :
    Writes a (s.armingHandoff kind slot wasPresent) := by
  cases kind with
  | entry => exact h.entryHandoff _
  | exit => exact .ite (h.exitHandoff _) h
  | zone | alight => exact h

theorem Writes.complete (h : Writes a s) (kind : CompletionKind) (holder : Option Holder) (r : Option Reservation) (dest : Nat)
    (subject : Subject) (done : Event) : Writes a (s.complete kind holder r dest subject done) := by
  cases holder with
  | none => exact h.append _
  | some x => exact .ite (h.append _) (((h.rosterComplete _ _ _).append _).armingHandoff _ _ _)

theorem Writes.appendOverstays (h : Writes a s) (ps : List Presence) : Writes a (s.appendOverstays ps) :=
  h.foldl (fun _ _ h => h.append _) ps

theorem Writes.rosterClose (h : Writes a s) (g : Nat) : Writes a (s.rosterClose g) :=
  .ite ((h.setRoster _).appendOverstays _) (h.setRoster _)

theorem Writes.rosterTick (h : Writes a s) : Writes a s.rosterTick := (h.setRoster _).appendOverstays _

theorem Writes.removeByHand (h : Writes a s) (p : Presence) : Writes a (s.removeByHand p) :=
  ((h.setRoster _).append _).exitHandoff _

/-! ### Gate channels and strike drive (chapter 7) -/

theorem Writes.release (h : Writes a s) (c tenths : Nat) : Writes a (s.release c tenths) := by
  unfold State.release
  dsimp only
  split
  case h_5 => exact (h.append _).setChannel _ _
  case h_6 => exact h
  all_goals exact h.setChannel _ _

theorem Writes.enterUnlocked (h : Writes a s) (c : Nat) : Writes a (s.enterUnlocked c) := by
  unfold State.enterUnlocked
  dsimp only
  split
  case h_1 => exact (h.append _).setChannel _ _
  case h_2 => exact h.setChannel _ _

theorem Writes.leaveUnlocked (h : Writes a s) (c : Nat) : Writes a (s.leaveUnlocked c) := h.setChannel _ _

theorem Writes.lockChannel (h : Writes a s) (c : Nat) : Writes a (s.lockChannel c) := h.setChannel _ _

theorem Writes.channelOpened (h : Writes a s) (c : Nat) : Writes a (s.channelOpened c) := by
  unfold State.channelOpened
  dsimp only
  split
  case h_1 => exact (h.append _).setChannel _ _
  all_goals exact h.setChannel _ _

theorem Writes.channelClosed (h : Writes a s) (c : Nat) : Writes a (s.channelClosed c) := by
  unfold State.channelClosed
  dsimp only
  split
  case h_2 | h_3 => exact (h.append _).setChannel _ _
  all_goals exact h.setChannel _ _

theorem Writes.channelExpired (h : Writes a s) (c : Nat) : Writes a (s.channelExpired c) := by
  unfold State.channelExpired
  dsimp only
  split <;> exact h.setChannel _ _

theorem Writes.heldOpenExpired (h : Writes a s) (c : Nat) : Writes a (s.heldOpenExpired c) :=
  .ite ((h.setChannel _ _).append _) (h.setChannel _ _)

theorem Writes.placeChannel (h : Writes a s) (c : Nat) (x : Channel) : Writes a (s.placeChannel c x) :=
  .ite (h.setChannel _ _) (.ite ((h.setChannel _ _).append _) (h.setChannel _ _))

theorem Writes.supplySample (h : Writes a s) (v : Nat) : Writes a (s.supplySample v) := by
  refine .ite (.ite (h.setStrike _) ((h.setStrike _).append _)) ?_
  have hok : Writes a (if s.strike.failMark then s.append (.supplyOk v) else s) := .ite (h.append _) h
  exact .ite ((hok.setStrike _).append _) (hok.setStrike _)

theorem Writes.periodStart (h : Writes a s) : Writes a s.periodStart :=
  ((h.setStrike _).forEach (fun _ _ h => h.setChannel _ _) _).setTimes _ _ _ _

/-! ### Passages (4.6 to 4.8) -/

theorem Writes.detach (h : Writes a s) (n : Nat) (channel : Option Nat) : Writes a (s.detach n channel) := by
  cases channel with
  | none => exact h
  | some c => exact .ite (h.setChannel _ _) h

theorem Writes.endPassage (h : Writes a s) (n : Nat) (p : Passage) (next : SlotState) : Writes a (s.endPassage n p next) :=
  (h.setStation _ _).detach _ _

theorem Writes.completePassage (h : Writes a s) (n : Nat) (p : Passage) : Writes a (s.completePassage n p) :=
  (h.complete _ _ _ _ _ _).endPassage _ _ _

theorem Writes.abandonPassage (h : Writes a s) (n : Nat) (p : Passage) (cause : AbandonCause) :
    Writes a (s.abandonPassage n p cause) := (h.append _).endPassage _ _ _

theorem Writes.withCarried (h : Writes a s) (c : Nat) {f : Nat → Passage → State} (hf : ∀ n p, Writes a (f n p)) :
    Writes a (s.withCarried c f) := by
  unfold State.withCarried
  split
  · exact h
  · split
    · exact hf _ _
    · exact h

theorem Writes.setPassage (h : Writes a s) (n : Nat) (p : Passage) : Writes a (s.setPassage n p) := h.setStation _ _

theorem Writes.handWindow (h : Writes a s) (c : Nat) : Writes a (s.handWindow c) := h.withCarried c fun _ _ => h.setPassage _ _

theorem Writes.gateOpened (h : Writes a s) (c : Nat) : Writes a (s.gateOpened c) :=
  have h1 := h.channelOpened c
  h1.withCarried c fun _ _ => h1.setPassage _ _

theorem Writes.gateClosed (h : Writes a s) (c : Nat) : Writes a (s.gateClosed c) :=
  have h1 := h.channelClosed c
  h1.withCarried c fun _ _ => .ite (h1.completePassage _ _) h1

theorem Writes.releaseExpired (h : Writes a s) (c : Nat) : Writes a (s.releaseExpired c) := by
  have h1 := h.channelExpired c
  have h2 : Writes a ((s.channelExpired c).handExpired c) :=
    h1.withCarried c fun _ _ => .ite (h1.abandonPassage _ _ _) h1
  unfold State.releaseExpired
  split
  case h_1 | h_2 | h_3 => exact h2
  all_goals exact h1

theorem Writes.syncChannel (h : Writes a s) (c : Nat) : Writes a (s.syncChannel c) :=
  .ite (.ite h ((h.enterUnlocked c).handWindow c)) (.ite (h.leaveUnlocked c) h)

theorem Writes.channelsFollowPhase (h : Writes a s) : Writes a s.channelsFollowPhase :=
  .ite h (h.forEach (fun _ _ h => .ite (h.syncChannel _) h) _)

theorem Writes.modeWritten (h : Writes a s) (c : Nat) (old : Byte) : Writes a (s.modeWritten c old) :=
  .ite h (.ite (h.syncChannel c) (.ite ((h.lockChannel c).handWindow c) h))

/-! ### Site clock (chapter 2) -/

theorem Writes.setPhase (h : Writes a s) (p : Phase) : Writes a (s.setPhase p) := h.setClock _

theorem Writes.closeEvent (h : Writes a s) : Writes a s.closeEvent :=
  (((h.setPhase _).append _).rosterClose _).channelsFollowPhase

theorem Writes.openEvent (h : Writes a s) : Writes a s.openEvent :=
  (((h.setPhase _).append _).setRoster _).channelsFollowPhase

theorem Writes.evaluatePhase (h : Writes a s) (tick : Bool) : Writes a (s.evaluatePhase tick) := by
  unfold State.evaluatePhase
  split
  case h_1 | h_6 => exact h
  case h_2 => exact h.closeEvent
  case h_3 | h_5 => exact h.openEvent
  case h_4 => exact .ite (h.setPhase _).rosterTick h

theorem Writes.minuteTick (h : Writes a s) : Writes a s.minuteTick :=
  .ite (.ite ((h.setClock _).evaluatePhase _) (h.setClock _)) h

theorem Writes.secondTick (h : Writes a s) : Writes a s.secondTick := .ite (.ite (h.setClock _) h.minuteTick) h

theorem Writes.setTime (h : Writes a s) (t : Nat) : Writes a (s.setTime t) := ((h.setClock _).append _).evaluatePhase _

/-! ### The decision engine (chapters 4 and 5) -/

theorem Writes.writeVerdict (h : Writes a s) (n : Nat) (o : StationOutcome) (t : Option Nat) :
    Writes a (s.writeVerdict n o t) := (h.setStation _ _).setPort _ _

theorem Writes.setSlot (h : Writes a s) (n : Nat) (x : SlotState) : Writes a (s.setSlot n x) := h.setStation _ _

theorem Writes.denyStation (h : Writes a s) (n : Nat) (t : Option Nat) (reason : DenyReason) :
    Writes a (s.denyStation n t reason) := ((h.writeVerdict _ _ _).append _).setSlot _ _

theorem Writes.attach (h : Writes a s) (c n : Nat) : Writes a (s.attach c n) :=
  (h.withCarried c fun _ _ => h.setPassage _ _).setChannel _ _

theorem Writes.grantGate (h : Writes a s) (n : Nat) (channel : Option Nat) (release : Nat) :
    Writes a (s.grantGate n channel release) := by
  cases channel with
  | none => exact h
  | some c => exact .ite ((h.attach c n).release c release) (h.attach c n)

theorem Writes.grantStation (h : Writes a s) (n : Nat) (r : Request) (kind : PassageKind) (t : Option Nat)
    (res : Option Reservation) (passback : Bool) : Writes a (s.grantStation n r kind t res passback) :=
  have h1 := (h.grantGate n r.config.channel (s.releaseTime t)).writeVerdict n (.grant (s.releaseTime t)) t
  Writes.setSlot (.ite (h1.append _) h1) _ _

theorem Writes.decideEntry (h : Writes a s) (n : Nat) (r : Request) : Writes a (s.decideEntry n r) := by
  unfold State.decideEntry
  dsimp only
  split
  exacts [h.denyStation _ _ _, h.grantStation _ _ _ _ _ _]

theorem Writes.decideExit (h : Writes a s) (n : Nat) (r : Request) : Writes a (s.decideExit n r) := by
  unfold State.decideExit
  dsimp only
  split
  exacts [h.denyStation _ _ _, h.grantStation _ _ _ _ _ _]

theorem Writes.decideZone (h : Writes a s) (n : Nat) (r : Request) : Writes a (s.decideZone n r) := by
  unfold State.decideZone
  dsimp only
  split
  exacts [h.denyStation _ _ _, h.grantStation _ _ _ _ _ _]

theorem Writes.takeStation (h : Writes a s) (type : StationType) {judge : State → Nat → Request → State}
    (hj : ∀ n r, Writes a (judge s n r)) : Writes a (s.takeStation type judge) := by
  unfold State.takeStation
  split
  exacts [.ite (hj _ _) h, h]

theorem Writes.clearVerdict (h : Writes a s) (n : Nat) : Writes a (s.clearVerdict n) := h.setStation _ _

theorem Writes.takeOffline (h : Writes a s) (n : Nat) : Writes a (s.takeOffline n) := by
  unfold State.takeOffline
  split
  exacts [h.abandonPassage _ _ _, h.setSlot _ _]

theorem Writes.windowDeadline (h : Writes a s) (n : Nat) : Writes a (s.windowDeadline n) := by
  unfold State.windowDeadline
  split
  exacts [.ite h (h.abandonPassage _ _ _), h]

theorem Writes.fireStation (h : Writes a s) (n : Nat) : Writes a (State.fireStation n s) := by
  unfold State.fireStation
  split
  exacts [h.abandonPassage _ _ _, h]

theorem Writes.writeCarVerdict (h : Writes a s) (n : Nat) (v : CarVerdict) : Writes a (s.writeCarVerdict n v) :=
  (h.setCar _ _).setPort _ _

theorem Writes.setCarState (h : Writes a s) (n : Nat) (x : CarState) : Writes a (s.setCarState n x) := h.setCar _ _

theorem Writes.denyCar (h : Writes a s) (n : Nat) (r : CarRequest) (t : Option Nat) (reason : DenyReason) :
    Writes a (s.denyCar n r t reason) := ((h.writeCarVerdict _ _).append _).setCarState _ _

theorem Writes.grantCar (h : Writes a s) (n : Nat) (r : CarRequest) (t : Option Nat) (res : Option Reservation) :
    Writes a (s.grantCar n r t res) := (h.writeCarVerdict _ _).setCarState _ _

theorem Writes.decideCar (h : Writes a s) (n : Nat) (r : CarRequest) : Writes a (s.decideCar n r) := by
  unfold State.decideCar
  dsimp only
  split
  · exact h.denyCar _ _ _ _
  · exact h.grantCar _ _ _ _
  · exact h.grantCar _ _ _ _

theorem Writes.takeCar (h : Writes a s) : Writes a s.takeCar := by
  unfold State.takeCar
  split
  exacts [h.decideCar _ _, h]

theorem Writes.clearCarVerdict (h : Writes a s) (n : Nat) : Writes a (s.clearCarVerdict n) := h.setCar _ _

theorem Writes.completeTrip (h : Writes a s) (n : Nat) (t : Trip) : Writes a (s.completeTrip n t) :=
  (h.complete _ _ _ _ _ _).setCarState _ _

theorem Writes.abandonTrip (h : Writes a s) (n : Nat) (t : Trip) (cause : AbandonCause) : Writes a (s.abandonTrip n t cause) :=
  (h.append _).setCarState _ _

theorem Writes.tripDeadline (h : Writes a s) (n : Nat) : Writes a (s.tripDeadline n) := by
  unfold State.tripDeadline
  split
  exacts [h.abandonTrip _ _ _, h]

theorem Writes.fireCar (h : Writes a s) (n : Nat) : Writes a (State.fireCar n s) := by
  unfold State.fireCar
  split
  exacts [h.abandonTrip _ _ _, h]

theorem Writes.fireEngine (h : Writes a s) : Writes a s.fireEngine :=
  (h.forEach (fun n _ h => h.fireCar n) _).forEach (fun n _ h => h.fireStation n) _

/-! ### Mode control, parameters, fire latch (chapter 9) -/

theorem Writes.enterFallback (h : Writes a s) (cause : ModeCause) : Writes a (s.enterFallback cause) :=
  .ite ((h.setControl _).append _) h

theorem Writes.storeWord (h : Writes a s) (w : Nat) (v : Word) : Writes a (s.storeWord w v) :=
  .ite ((h.setParam _ _).foldl (fun _ _ h => h.modeWritten _ _) _) (h.setParam _ _)

theorem Writes.paramFault (h : Writes a s) (cause : ModeCause) : Writes a (s.paramFault cause) :=
  (h.append _).enterFallback _

theorem Writes.closeWindow (h : Writes a s) (cause : ModeCause) : Writes a (s.closeWindow cause) := by
  have h1 : Writes a { s with window := none } := h.setTimes none s.sweep s.now s.fills
  have h2 : Writes a (if ({ s with window := none } : State).blockGood then ({ s with window := none } : State)
      else ({ s with window := none } : State).paramFault cause) := .ite h1 (h1.paramFault _)
  exact (h2.forEach (fun _ _ h => .ite (h.append _) h) _).setTimes _ _ _ _

theorem Writes.windowExpired (h : Writes a s) : Writes a s.windowExpired := .ite h (h.closeWindow _)

theorem Writes.sweepBlock (h : Writes a s) : Writes a s.sweepBlock :=
  have h1 : Writes a { s with sweep := some (s.now + Config.sweepInterval) } := h.setTimes s.window _ s.now s.fills
  .ite h (.ite h1 (h1.paramFault _))

theorem Writes.fireActive (h : Writes a s) : Writes a s.fireActive :=
  have h1 := (h.setControl { s.control with fireLive := true, fireLatch := true }).append .fireOn
  .ite h (.ite h1 (h1.fireEngine.forEach (fun _ _ h => .ite (h.enterUnlocked _) h) _))

theorem Writes.fireInactive (h : Writes a s) : Writes a s.fireInactive := .ite ((h.setControl _).append _) h

theorem Writes.egressActive (h : Writes a s) (c : Nat) : Writes a (s.egressActive c) :=
  have h1 := h.setChannel c { s.channel c with egress := true }
  .ite h (.ite h1 (h1.release _ _))

/-! ### Bulk loading (chapter 8) -/

theorem Writes.commitTenant (h : Writes a s) (target : Nat) (d : TenantDetails) (units : List Nat) :
    Writes a (s.commitTenant target d units) :=
  (h.setTenant _ _).foldl (fun _ _ h => (h.setUnit _ _).assignArming _) _

theorem Writes.examine (h : Writes a s) (svckey : Bool) (target : Nat) (r : LoadRecord) :
    Writes a (s.examine svckey target r).2 := by
  unfold State.examine
  split
  · split
    · exact h
    · exact h.commitTenant _ _ _
  · split
    · exact h
    · exact h.setUnit _ _

theorem Writes.takeRecord (h : Writes a s) (svckey : Bool) : Writes a (s.takeRecord svckey) := by
  unfold State.takeRecord
  split
  exacts [.ite (((h.examine _ _ _).setLoader _).append _) ((h.examine _ _ _).setLoader _), h]

/-! ### Restarts and power (9.5) -/

theorem Writes.takeFireLevel (h : Writes a s) (level : Bool) : Writes a (s.takeFireLevel level) :=
  .ite ((h.setControl _).append _) (h.setControl _)

theorem Writes.placeChannels (h : Writes a s) (l : Lines) : Writes a (s.placeChannels l) :=
  h.forEach (fun _ _ h => h.placeChannel _ _) _

/-- What follows a reset's clearing: the restart rule of mode control (R162). -/
theorem Writes.restart (h : Writes a s) (cause : ResetCause) (l : Lines) (checkFailed : Bool) :
    Writes a (s.restart cause l checkFailed) :=
  (((((h.setControl _).setControl _).setControl _).append _).takeFireLevel _).placeChannels _

theorem Writes.powerLost (h : Writes a s) : Writes a s.powerLost := .ite (h.setPower _) h

theorem Writes.retentionLost (h : Writes a s) : Writes a s.retentionLost := .ite h (h.setPower _)

end

end Sys2Proof.Machine
end

section
/-! Commands, whole frames and events as named writes: what each of them can do to the state, said once. -/

namespace Sys2Proof.Machine

/-! ### Commands -/

section
variable {a s : State} {args : List Byte}

/-- PASSED and NO PASSAGE leave the state or end the passage (R82). -/
theorem Writes.endByField {act : Nat → Passage → State} (h : ∀ n p, Writes s (act n p)) :
    Writes s (endByField args s act).2 := by
  unfold Machine.endByField
  dsimp only
  split
  · exact .refl
  · split
    exacts [.refl, h _ _]

/-- CAR ALIGHT and CAR CANCEL leave the state or end the trip (R98). -/
theorem Writes.endByLift {act : Nat → Trip → State} (h : ∀ n t, Writes s (act n t)) :
    Writes s (endByLift args s act).2 := by
  unfold Machine.endByLift
  dsimp only
  split
  · exact .refl
  · split
    exacts [h _ _, .refl]

theorem Writes.tenantWrite (svckey : Bool) : Writes s (runTenantWrite svckey args s).2 := by
  unfold runTenantWrite
  split
  exacts [.refl, .answer (Writes.refl.setTenant _ _) _]

theorem Writes.tenantState (svckey : Bool) : Writes s (runTenantState svckey args s).2 := by
  unfold runTenantState
  split
  exacts [.refl, .answer ((Writes.refl.setTenant _ _).overlockChange _ _ _) _]

theorem Writes.profileWrite : Writes s (runProfileWrite args s).2 := by
  unfold runProfileWrite
  split
  exacts [.refl, .answer (Writes.refl.setProfile _ _) _]

theorem Writes.unitContact : Writes s (runUnitContact args s).2 := by
  unfold runUnitContact
  dsimp only
  split
  exacts [.refl, .answer (Writes.refl.contactReport _ _) _]

theorem Writes.unitAck : Writes s (runUnitAck args s).2 := by
  unfold runUnitAck
  dsimp only
  split
  · exact .refl
  · split
    · split
      exacts [.refl, (Writes.refl.setArm _ _).append _]
    · exact .refl

theorem Writes.unitService : Writes s (runUnitService args s).2 := by
  unfold runUnitService
  dsimp only
  split
  exacts [.refl, .answer (.ite (Writes.refl.setArm _ _) (Writes.refl.endService _)) _]

theorem Writes.presenceRemove : Writes s (runPresenceRemove args s).2 := by
  unfold runPresenceRemove
  split
  · exact .refl
  · split
    exacts [.refl, Writes.refl.removeByHand _]

theorem Writes.overstayAck : Writes s (runOverstayAck args s).2 := by
  unfold runOverstayAck
  dsimp only
  split
  · exact .refl
  · split
    exacts [.refl, .answer (Writes.refl.setRoster _) _]

theorem Writes.present : Writes s (runPresent args s).2 := by
  unfold runPresent
  dsimp only
  split
  exacts [.refl, .answer (Writes.refl.setSlot _ _) _]

theorem Writes.carQuery : Writes s (runCarQuery args s).2 := by
  unfold runCarQuery
  dsimp only
  split
  exacts [.refl, .answer (Writes.refl.setCarState _ _) _]

theorem Writes.loadBegin : Writes s (runLoadBegin args s).2 := by
  unfold runLoadBegin
  dsimp only
  split
  exacts [.refl, .answer (Writes.refl.setLoader _) _]

theorem Writes.loadData : Writes s (runLoadData args s).2 := by
  unfold runLoadData
  dsimp only
  split
  · exact .refl
  · split
    exacts [.refl, .answer (Writes.refl.setLoader _) _]

theorem Writes.paramClose : Writes s (runParamClose s).2 := by
  unfold runParamClose
  split
  exacts [.refl, Writes.refl.closeWindow _]

/-- The blocks' effects are named writes, SELECT TENANT's, FIND TENANT's and DEVICE RESET's apart. -/
theorem Writes.command (c : Command) (l : Lines) (args : List Byte) (hs : c ≠ .selectTenant) (hf : c ≠ .findTenant)
    (hd : c ≠ .deviceReset) : Writes s (runCommand c l args s).2 := by
  cases c
  case selectTenant | findTenant | deviceReset => contradiction
  case tenantWrite => exact .tenantWrite _
  case tenantState => exact .tenantState _
  case profileWrite => exact .profileWrite
  case unitContact => exact .unitContact
  case unitAck => exact .unitAck
  case unitService => exact .unitService
  case presenceRemove => exact .presenceRemove
  case overstayAck => exact .overstayAck
  case present => exact .present
  case carQuery => exact .carQuery
  case loadBegin => exact .loadBegin
  case loadData => exact .loadData
  case paramClose => exact .paramClose
  case passed => exact .endByField fun _ _ => Writes.refl.completePassage _ _
  case noPassage => exact .endByField fun _ _ => Writes.refl.abandonPassage _ _ _
  case carAlight => exact .endByLift fun _ _ => Writes.refl.completeTrip _ _
  case carCancel => exact .endByLift fun _ _ => Writes.refl.abandonTrip _ _ _
  case setClock => exact .answer (Writes.refl.setTime _) _
  case tenantFree => exact .answer (Writes.refl.freeTenant _) _
  case assignUnit => exact .answer (Writes.refl.assignUnit _ _) _
  case releaseUnit => exact .answer ((Writes.refl.setTenant _ _).releaseUnit _) _
  case unitFloor => exact .answer (Writes.refl.setUnit _ _) _
  case loadAbort => exact .answer ((Writes.refl.setLoader _).append _) _
  case paramOpen => exact .answer (Writes.refl.setTimes _ _ s.now s.fills) _
  case paramWrite => exact .answer (Writes.refl.storeWord _ _) _
  case gatePulse => exact .answer (.ite .refl (Writes.refl.release _ _)) _
  case fireClear =>
    exact .answer (((Writes.refl.setControl _).append _).forEach (fun _ _ h => .ite (h.leaveUnlocked _) h) _) _
  case fallbackEnter => exact Writes.refl.enterFallback _
  case fallbackRelease => exact .answer ((Writes.refl.setControl _).append _) _
  case stationOnline => exact .answer (Writes.refl.setSlot _ _) _
  case stationOffline => exact .answer (Writes.refl.takeOffline _) _
  all_goals exact .refl

/-! ### Frames -/

/-- What a read's frame does at its end (R66, R96, R167). -/
theorem Writes.endRead (h : Writes a s) (c : Command) (bytes : Nat) (m : Sample) : Writes a (endRead c bytes m s) := by
  unfold Machine.endRead
  split
  · exact h.setLog _
  · split
    exacts [h.clearVerdict _, h]
  · split
    exacts [h.clearCarVerdict _, h]
  · exact h

theorem Writes.takeRead (c : Command) (bytes : Nat) (m : Option Sample) : Writes s (takeRead c bytes m s).2 := by
  cases m with
  | none => exact .refl
  | some m =>
    unfold Machine.takeRead
    dsimp only
    split
    exacts [Writes.refl.endRead _ _ _, .refl]

theorem Writes.enterRepeat (h : Writes a s) (p : Port) (c : Command) (args : List Byte) (r : ResultCode) :
    Writes a (s.enterRepeat p c args r) := .ite (h.setPort _ _) h

theorem Writes.frameDone (h : Writes a s) (p : Port) (r : ResultCode) (out : List Byte) (drawn : Nat) :
    Writes a (s.frameDone p r out drawn) := (h.setPort _ _).setTimes _ _ _ _

/-- A frame in repeat mode moves no cursor: it is a CAR QUERY or a PRESENT (R174). -/
theorem Writes.takeRepeat (p : Port) (l : Lines) (wire : List Byte) : Writes s (takeRepeat p l wire s).2 := by
  unfold Machine.takeRepeat
  split
  · exact Writes.refl.setPort _ _
  · cases p with
    | office => exact .refl
    | lift =>
      dsimp only [repeatCommand]
      split
      exacts [.refl, .carQuery]
    | field =>
      dsimp only [repeatCommand]
      split
      exacts [.refl, .present]

end

section
variable {s : State} {p : Port} {l : Lines}

/-- FIND TENANT is refused without effect, or has the result OK (R12). -/
theorem runFindTenant_cases (args : List Byte) (s : State) : (runFindTenant args s).2 = s ∨ (runFindTenant args s).1 = .ok := by
  unfold runFindTenant
  split
  · exact .inl rfl
  · split
    exacts [.inl rfl, .inr rfl]

theorem takeFrame_repeating {wire : List Byte} {m : Option Sample} (h : (s.port p).repeating = true) :
    takeFrame p l wire m s = takeRepeat p l wire s := if_pos h

theorem takeFrame_coded {code : Byte} {args : List Byte} {m : Option Sample} (h : ¬(s.port p).repeating = true) :
    takeFrame p l (code :: args) m s = takeCoded p l code args m s := if_neg h

/-- A coded frame's effect is named writes, unless it selects, finds, or resets. -/
theorem takeCoded_cases (l : Lines) (c : Command) (args : List Byte) (m : Option Sample) (hs : c ≠ .selectTenant)
    (hd : c ≠ .deviceReset) :
    Writes s (takeCoded p l (commandCode c) args m s).2 ∨
      p = .office ∧ c = .findTenant ∧ (takeCoded p l (commandCode c) args m s).1 = .ok := by
  unfold takeCoded
  simp only [commandOf_commandCode]
  split
  case isTrue => exact .inl .refl
  case isFalse hp =>
    split
    case isTrue => exact .inl .refl
    case isFalse =>
      split
      case isTrue => exact .inl (.takeRead _ _ _)
      case isFalse =>
        by_cases hf : c = .findTenant
        · subst hf
          have hoffice : p = .office := by simpa [permitted] using hp
          rcases runFindTenant_cases args s with h | h
          · exact .inl (Writes.enterRepeat (by show Writes s (runFindTenant args s).2; rw [h]; exact .refl) _ _ _ _)
          · exact .inr ⟨hoffice, rfl, h⟩
        · exact .inl ((Writes.command c l args hs hf hd).enterRepeat _ _ _ _)

/-- A whole frame leaves the state but for its port's open frame, or is taken: the port's result is the frame's. -/
theorem frameEvent_whole_cases (args wire : List Byte) :
    Writes s (frameEvent (whole p args l) wire s) ∨
      ∃ m out k, frameEvent (whole p args l) wire s =
        (takeFrame p l wire m s).2.frameDone p (takeFrame p l wire m s).1 out k := by
  by_cases hr : s.running = true
  · by_cases hw : wire = []
    · left
      simp only [frameEvent, hr, if_true, whole_part, whole_port, endFrame, newFrame, hw, List.append_nil]
      exact Writes.refl.setPort _ _
    · right
      simp only [frameEvent, hr, if_true, whole_part, whole_port, whole_lines, endFrame, newFrame, hw, List.append_nil, if_false]
      exact ⟨_, _, _, rfl⟩
  · left
    rw [frameEvent, if_neg hr]
    exact .refl

/-- A whole frame of a listed command is named writes, unless it selects, resets, or is a FIND TENANT with the result OK. -/
theorem commandFrame_cases (c : Command) (args : List Byte) (hs : c ≠ .selectTenant) (hd : c ≠ .deviceReset) :
    Writes s (commandFrame c (whole p args l) s) ∨
      c = .findTenant ∧ (commandFrame c (whole p args l) s).office.lastResult = .ok := by
  rcases frameEvent_whole_cases (s := s) (p := p) (l := l) args (commandWire c (whole p args l) s) with h | ⟨m, out, k, h⟩
  · exact .inl h
  have htake : Writes s (takeFrame p l (commandWire c (whole p args l) s) m s).2 ∨
      p = .office ∧ c = .findTenant ∧ (takeFrame p l (commandWire c (whole p args l) s) m s).1 = .ok := by
    by_cases hrep : (s.port p).repeating = true
    · rw [takeFrame_repeating hrep]
      exact .inl (.takeRepeat _ _ _)
    · have hwire : commandWire c (whole p args l) s = commandCode c :: args := if_neg fun h => hrep h.1
      rw [hwire, takeFrame_coded hrep]
      exact takeCoded_cases l c args m hs hd
  rw [commandFrame, h]
  rcases htake with hw | ⟨rfl, hc, hok⟩
  · exact .inl (hw.frameDone _ _ _ _)
  · exact .inr ⟨hc, hok⟩

/-- A whole frame whose code is unlisted changes ports at most (R170), or is a frame of the port's repeat mode. -/
theorem Writes.unlistedFrame {code : Byte} (hcode : unlistedCode code = true) (args : List Byte) :
    Writes s (frameEvent (whole p args l) (code :: args) s) := by
  rcases frameEvent_whole_cases (s := s) (p := p) (l := l) args (code :: args) with h | ⟨m, out, k, h⟩
  · exact h
  rw [h]
  refine Writes.frameDone ?_ _ _ _ _
  by_cases hrep : (s.port p).repeating = true
  · rw [takeFrame_repeating hrep]
    exact .takeRepeat _ _ _
  · have hnone : commandOf code = none := Option.isNone_iff_eq_none.1 hcode
    rw [takeFrame_coded hrep, takeCoded, hnone]
    exact .refl

/-- A whole frame with first byte FF, in repeat mode or outside it (R174). -/
theorem Writes.leaveFrame (args : List Byte) : Writes s (frameEvent (whole p args l) (0xFF :: args) s) := by
  rcases frameEvent_whole_cases (s := s) (p := p) (l := l) args (0xFF :: args) with h | ⟨m, out, k, h⟩
  · exact h
  rw [h]
  refine Writes.frameDone ?_ _ _ _ _
  by_cases hrep : (s.port p).repeating = true
  · rw [takeFrame_repeating hrep]
    exact .takeRepeat _ _ _
  · rw [takeFrame_coded hrep]
    exact (takeCoded_cases l .repeatEnd args m nofun nofun).resolve_right fun h => nomatch h.2.1

/-! ### Events -/

/-- Every event that carries no line levels is named writes: it is no frame but FRAMING, and no reset. -/
theorem exec_writes (i : Instr) (s : State) (hi : linesOf i = none) : ∃ t, exec i s = .next t ∧ Writes s t := by
  cases i
  case framing => exact ⟨_, rfl, .ite ((Writes.refl.setPort _ _).frameDone _ _ _ _) .refl⟩
  case gateContactOpen => exact ⟨_, rfl, .ite (.ite .refl (Writes.refl.gateOpened _)) .refl⟩
  case gateContactClose => exact ⟨_, rfl, .ite (.ite (Writes.refl.gateClosed _) .refl) .refl⟩
  case egressRequest => exact ⟨_, rfl, .ite (.ite (Writes.refl.egressActive _) (Writes.refl.setChannel _ _)) .refl⟩
  case fireInputActive => exact ⟨_, rfl, .ite Writes.refl.fireActive .refl⟩
  case fireInputInactive => exact ⟨_, rfl, .ite Writes.refl.fireInactive .refl⟩
  case rstAssert => exact ⟨_, rfl, Writes.refl.setPower _⟩
  case mainPowerLoss => exact ⟨_, rfl, Writes.refl.powerLost⟩
  case vbatBelowHoldingLevel => exact ⟨_, rfl, Writes.refl.retentionLost⟩
  case secondTick => exact ⟨_, rfl, Writes.refl.secondTick⟩
  case minuteTick => exact ⟨_, rfl, Writes.refl.minuteTick⟩
  case entryDecision => exact ⟨_, rfl, .ite (Writes.refl.takeStation _ Writes.refl.decideEntry) .refl⟩
  case exitDecision => exact ⟨_, rfl, .ite (Writes.refl.takeStation _ Writes.refl.decideExit) .refl⟩
  case zoneDecision => exact ⟨_, rfl, .ite (Writes.refl.takeStation _ Writes.refl.decideZone) .refl⟩
  case carDecision => exact ⟨_, rfl, .ite Writes.refl.takeCar .refl⟩
  case loaderExamine => exact ⟨_, rfl, .ite (Writes.refl.takeRecord _) .refl⟩
  case releaseTimerExpiry => exact ⟨_, rfl, .ite (.ite (Writes.refl.releaseExpired _) .refl) .refl⟩
  case heldOpenTimerExpiry => exact ⟨_, rfl, .ite (.ite (Writes.refl.heldOpenExpired _) .refl) .refl⟩
  case pickTimerExpiry => exact ⟨_, rfl, .ite (Writes.refl.setChannel _ _) .refl⟩
  case passageWindowDeadline => exact ⟨_, rfl, .ite (Writes.refl.windowDeadline _) .refl⟩
  case tripDeadline => exact ⟨_, rfl, .ite (Writes.refl.tripDeadline _) .refl⟩
  case editWindowExpiry => exact ⟨_, rfl, .ite Writes.refl.windowExpired .refl⟩
  case integritySweep => exact ⟨_, rfl, .ite Writes.refl.sweepBlock .refl⟩
  case supplySample => exact ⟨_, rfl, .ite (Writes.refl.supplySample _) .refl⟩
  case pwmPeriodStart => exact ⟨_, rfl, .ite Writes.refl.periodStart .refl⟩
  all_goals cases hi

end

end Sys2Proof.Machine
end

section
/-! The selection cursor (R11, R12): the two commands that set it, the resets that clear it, and every other event. -/

namespace Sys2Proof.Machine

/-! ### The commands and the resets -/

section
variable {s : State} {args : List Byte}

/-- SELECT TENANT (R11). -/
theorem runSelectTenant_eq (args : List Byte) (s : State) :
    runSelectTenant args s =
      if wordAt args 0 < 2048 then (.ok, { s with cursor := some (wordAt args 0) }) else (.badArgument, s) := by
  by_cases h : wordAt args 0 < 2048 <;> simp [runSelectTenant, h, Nat.not_le.2, Nat.le_of_not_lt, State.setCursor]

theorem runFindTenant_invalid (h : credentialOf (byteAt args 0) (longAt args 1) = none) :
    runFindTenant args s = (.badArgument, s) := by simp [runFindTenant, h]

/-- FIND TENANT by the slot in use that holds the credential, where there is one (R12). -/
theorem runFindTenant_valid {c : Credential} (h : credentialOf (byteAt args 0) (longAt args 1) = some c) :
    runFindTenant args s = ((s.tenantOf c).elim (.notFound, s) fun i => (.ok, { s with cursor := some i })) := by
  unfold runFindTenant
  rw [h]
  dsimp only
  cases s.tenantOf c with
  | none => rfl
  | some i => rfl

/-- No slot is found for a credential that none in use holds, whatever the others hold. -/
theorem State.tenantOf_eq_none {c : Credential} (h : s.requestTenant c none) : s.tenantOf c = none := by
  rw [State.tenantOf, List.find?_eq_none]
  intro i hi
  rcases h i (List.mem_range.1 hi) with h | h <;> simp [State.holdsCredential, h]

end

section
variable (s : State) (l : Lines) (checkPasses : Bool)

/-! Every kind of reset drops the cursor with the work in progress, and nothing after that sets it (R148, R160). -/

theorem State.warmReset_cursor (cause : ResetCause) : (s.warmReset cause l).cursor = none :=
  (Writes.restart .refl cause l false).cursor_eq

theorem State.coldReset_cursor : (s.coldReset l checkPasses).cursor = none := (Writes.restart .refl .cold l !checkPasses).cursor_eq

theorem State.powerReturns_cursor : (s.powerReturns l checkPasses).cursor = none := by
  unfold State.powerReturns
  split
  · exact (Writes.restart .refl .retention l !checkPasses).cursor_eq
  · exact s.coldReset_cursor l checkPasses

theorem State.pinReset_cursor (h : s.power.main = true) : (s.pinReset l).cursor = none := by
  rw [State.pinReset, if_pos h]
  exact State.warmReset_cursor _ l .pin

end

@[simp] theorem State.taken_cursor (s after : State) (p : Port) (r : ResultCode) (n : Nat) :
    (s.taken after p r n).cursor = after.cursor := State.setPort_cursor _ _ _

/-- R11: SELECT TENANT, by its one check. -/
theorem selectTenant_exec {s : State} {l : Lines} {args : List Byte} (h : s.takes .office) (ha : 2 ≤ args.length) :
    exec (.selectTenant (whole .office args l)) s =
      .next (if wordAt args 0 < 2048 then s.taken { s with cursor := some (wordAt args 0) } .office .ok (args.length + 1)
        else s.untaken .office .badArgument (args.length + 1)) := by
  refine (exec_officeWrite .selectTenant h rfl rfl ha (runSelectTenant_eq args s)).trans ?_
  split <;> rfl

/-- Settles O7: SELECT and FIND by their blocks' answers, the resets by what they drop, and every other event because it is made
of writes that leave the cursor. -/
theorem selectionCursor : Obligations.SelectionCursor := by
  refine ⟨⟨fun s l args => selectTenant_exec, fun s t l b => ⟨?cold, ?retention, ?pin, ?device⟩, ?frames, ?events, ?unlisted⟩,
    fun s l args h ha => ⟨?invalid, fun c hc => ⟨?found, ?missing⟩⟩⟩
  case cold => exact fun h => Host.Outcome.next.inj h ▸ s.coldReset_cursor l b
  case retention => exact fun h => Host.Outcome.next.inj h ▸ s.powerReturns_cursor l b
  case pin => exact fun hmain h => Host.Outcome.next.inj h ▸ s.pinReset_cursor l hmain
  case device =>
    intro args htakes h
    have hreset := exec_officeWrite (l := l) (args := args) .deviceReset htakes rfl rfl (Nat.zero_le _) rfl
    rw [← Host.Outcome.next.inj (hreset.symm.trans h), State.taken_cursor]
    exact s.warmReset_cursor l .command
  case frames =>
    intro s t c p l args hs hd h hf
    rw [exec_frameInstr] at h
    obtain rfl := Host.Outcome.next.inj h
    rcases commandFrame_cases c args hs hd with hw | ⟨hc, hok⟩
    · exact hw.cursor_eq
    · exact absurd hok (hf hc)
  case events =>
    intro s t i hi h
    obtain ⟨u, hu, hw⟩ := exec_writes i s hi
    rw [← Host.Outcome.next.inj (hu.symm.trans h)]
    exact hw.cursor_eq
  case unlisted =>
    rintro s t code p l args hcode (h | h)
    · exact Host.Outcome.next.inj h ▸ (Writes.unlistedFrame hcode args).cursor_eq
    · exact Host.Outcome.next.inj h ▸ (Writes.leaveFrame args).cursor_eq
  case invalid =>
    intro hc
    have he : runFindTenant args s = (.badArgument, s) := runFindTenant_invalid hc
    exact exec_officeWrite .findTenant h rfl rfl ha he
  case found =>
    intro i hlaw hi hused hcred
    have hslot : s.tenantOf c = some i := State.tenantOf_eq hlaw (requestTenant_some ⟨hi, hused, hcred⟩)
    have he : runFindTenant args s = (.ok, { s with cursor := some i }) := by rw [runFindTenant_valid hc, hslot, Option.elim_some]
    exact exec_officeWrite .findTenant h rfl rfl ha he
  case missing =>
    intro hnone
    have hslot : s.tenantOf c = none := State.tenantOf_eq_none hnone
    have he : runFindTenant args s = (.notFound, s) := by rw [runFindTenant_valid hc, hslot, Option.elim_none]
    exact exec_officeWrite .findTenant h rfl rfl ha he

end Sys2Proof.Machine
end

section
/-! Access windows and the profile test (R35, R36, R37). The length of a window is counted on intervals: a window with
start < end is the interval [start, end), and one that wraps past the week's end is what [end, start) leaves of the week. -/

namespace Sys2Proof.Machine

/-! ### The minutes inside a window (R35) -/

theorem Window.contains_iff (w : Window) (t : Nat) :
    w.contains t = true ↔
      (w.start < w.stop ∧ w.start ≤ t ∧ t < w.stop) ∨ (w.stop < w.start ∧ (w.start ≤ t ∨ t < w.stop)) := by
  unfold Window.contains
  split
  case isTrue hlt => simp [hlt, hlt.le]
  case isFalse hge =>
    split
    case isTrue hgt => simp [hge, hgt]
    case isFalse hle => simp [hge, hle]

section
variable {w : Window}

theorem Window.contains_of_start_eq_stop (h : w.start = w.stop) (t : Nat) : w.contains t = false := by
  simp [Window.contains, h]

theorem Window.contains_of_start_lt_stop (h : w.start < w.stop) (t : Nat) :
    w.contains t = decide (w.start ≤ t ∧ t < w.stop) := by
  simp [Window.contains, h]

/-- A window that wraps past the week's end leaves out the minutes from its end up to its start. -/
theorem Window.contains_of_stop_lt_start (h : w.stop < w.start) (t : Nat) :
    w.contains t = !decide (w.stop ≤ t ∧ t < w.start) := by
  rw [Bool.eq_iff_iff, Window.contains_iff, Bool.not_eq_true', decide_eq_false_iff_not]
  omega

/-- The start minute of an enabled window is inside it. -/
theorem Window.contains_start (h : w.start ≠ w.stop) : w.contains w.start = true := by
  rw [Window.contains_iff]
  omega

/-- The end minute of a window is not inside it. -/
theorem Window.contains_stop (w : Window) : w.contains w.stop = false := by
  rw [Bool.eq_false_iff, ne_eq, Window.contains_iff]
  omega

/-! ### The length (R36) -/

theorem Window.length_of_start_eq_stop (h : w.start = w.stop) : w.length = 0 := if_pos h

theorem Window.length_of_ne (h : w.start ≠ w.stop) : w.length = (w.stop + 10080 - w.start) % 10080 := if_neg h

theorem Window.length_of_start_lt_stop (h : w.start < w.stop) (hstop : w.stop < 10080) :
    w.length = w.stop - w.start := by
  rw [Window.length_of_ne h.ne]
  omega

theorem Window.length_of_stop_lt_start (h : w.stop < w.start) (hstart : w.start < 10080) :
    w.length = 10080 - (w.start - w.stop) := by
  rw [Window.length_of_ne h.ne']
  omega

theorem Window.length_le (w : Window) : w.length ≤ 10079 := by
  by_cases h : w.start = w.stop
  · simp [Window.length_of_start_eq_stop h]
  · rw [Window.length_of_ne h]
    omega

theorem Window.length_eq_emod (h : w.start ≠ w.stop) (hstart : w.start < 10080) :
    (w.length : Int) = ((w.stop : Int) - w.start) % 10080 := by
  rw [Window.length_of_ne h]
  omega

/-! ### Counting the minutes inside (R36) -/

/-- Of the numbers below `n`, `b - a` lie in an interval [a, b) that ends by `n`. -/
theorem countP_range_interval {a b n : Nat} (hb : b ≤ n) :
    (List.range n).countP (fun t => decide (a ≤ t ∧ t < b)) = b - a := by
  have hinterval : (Finset.range n).filter (fun t => a ≤ t ∧ t < b) = Finset.Ico a b := by
    ext t
    rw [Finset.mem_filter, Finset.mem_range, Finset.mem_Ico]
    omega
  calc (List.range n).countP (fun t => decide (a ≤ t ∧ t < b))
      = ((Finset.range n).filter fun t => a ≤ t ∧ t < b).card := Nat.count_eq_card_filter_range _ n
    _ = b - a := by rw [hinterval, Nat.card_Ico]

/-- The numbers below `n` outside an interval [a, b) that ends by `n`. -/
theorem countP_range_outside_interval {a b n : Nat} (hb : b ≤ n) :
    (List.range n).countP (fun t => !decide (a ≤ t ∧ t < b)) = n - (b - a) := by
  have hparts := List.length_eq_countP_add_countP (fun t => decide (a ≤ t ∧ t < b)) (l := List.range n)
  simp only [List.length_range, countP_range_interval hb, Bool.not_eq_true, Bool.decide_eq_false] at hparts
  omega

/-- The minutes of the week inside a window are as many as its length, by the order of start and end. -/
theorem Window.countP_contains (hstart : w.start < 10080) (hstop : w.stop < 10080) :
    (List.range 10080).countP w.contains = w.length := by
  rcases Nat.lt_trichotomy w.start w.stop with h | h | h
  · rw [funext (Window.contains_of_start_lt_stop h), countP_range_interval hstop.le, Window.length_of_start_lt_stop h hstop]
  · rw [funext (Window.contains_of_start_eq_stop h), List.countP_false, Window.length_of_start_eq_stop h]
    rfl
  · rw [funext (Window.contains_of_stop_lt_start h), countP_range_outside_interval hstart.le,
      Window.length_of_stop_lt_start h hstart]

end

/-! ### The profile test (R37) -/

section
variable {p : ProfileRecord}

theorem ProfileRecord.admits_of_anytime (h : p.kind = .anytime) (t : Nat) : p.admits t = true := by
  simp [ProfileRecord.admits, h]

theorem ProfileRecord.admits_iff_of_windowed (h : p.kind = .windowed) (t : Nat) :
    p.admits t = true ↔ ∃ w ∈ p.windows, w.contains t = true := by
  simp [ProfileRecord.admits, h]

end

/-- Settles O17: the length is the count of the minutes inside because a window is an interval of the week or leaves one out. -/
theorem windowLengthCountsItsMinutes : Obligations.WindowLengthCountsItsMinutes := by
  refine ⟨fun w hstart hstop => ⟨?inside, ?count, ?bound, ?disabled, ?enabled, ?ends⟩, fun p t => ⟨?anytime, ?windowed⟩⟩
  case inside => exact fun t _ => w.contains_iff t
  case count => exact Window.countP_contains hstart hstop
  case bound => exact w.length_le
  case disabled => exact Window.length_of_start_eq_stop
  case enabled => exact fun h => Window.length_eq_emod h hstart
  case ends => exact fun h => ⟨Window.contains_start h, w.contains_stop⟩
  case anytime => exact fun h => p.admits_of_anytime h t
  case windowed => exact fun h => p.admits_iff_of_windowed h t

end Sys2Proof.Machine
end

section
/-! Completions (R48 to R52): the orphan checks, the roster's change and the hand-offs to unit arming, said as the statements say
them. The exit hand-off (R110) moves each unit of a list once, so what it reads of a unit is what stood there before. -/

namespace Sys2Proof.Machine

/-! ### Records beside a change of units or roster -/

theorem State.logged_units (es : List Event) (a : State) (us : List (Nat × UnitRecord)) :
    ({ a with units := us } : State).logged es = { a.logged es with units := us } := by
  induction es generalizing a with
  | nil => rfl
  | cons e es ih => exact ih (a.append e)

theorem State.logged_roster (es : List Event) (a : State) (r : List Presence) :
    ({ a with roster := r } : State).logged es = { a.logged es with roster := r } := by
  induction es generalizing a with
  | nil => rfl
  | cons e es ih => exact ih (a.append e)

/-! ### The exit hand-off (R110) -/

/-- A unit moved at the exit hand-off, its visit mark not yet cleared (R110). -/
def UnitRecord.exiting (overlocked : Bool) (x : UnitRecord) : UnitRecord :=
  { x with
    arm := if x.arm = .disarmed then
        if x.contact = .opened then .alarm .leftOpen else if overlocked then .overlock else .armed
      else x.arm }

/-- The records of the units of a list that are left open, in list order (R110): `State.leftOpen` for a tenant's list. -/
def State.leftOpenIn (s : State) (us : List Nat) : List Event :=
  (us.filter fun u => (s.unit u).arm = .disarmed ∧ (s.unit u).contact = .opened).map
    fun u => .unitAlarm .leftOpen u (s.unit u).tenant

theorem State.leftOpen_eq (s : State) (slot : Nat) : s.leftOpen slot = s.leftOpenIn (s.tenant slot).units := rfl

theorem State.leftOpenIn_append (s : State) (us vs : List Nat) :
    s.leftOpenIn (us ++ vs) = s.leftOpenIn us ++ s.leftOpenIn vs := by
  simp [State.leftOpenIn]

theorem State.leftOpenIn_singleton (s : State) (u : Nat) :
    s.leftOpenIn [u] =
      if (s.unit u).arm = .disarmed ∧ (s.unit u).contact = .opened then [.unitAlarm .leftOpen u (s.unit u).tenant] else [] := by
  by_cases h : (s.unit u).arm = .disarmed ∧ (s.unit u).contact = .opened <;> simp [State.leftOpenIn, h]

/-- One unit's move changes that unit and, where it is left open, the log. -/
theorem State.exitUnit_eq (overlocked : Bool) (s : State) (u : Nat) :
    let t := s.exitUnit overlocked u
    t = { s.logged (s.leftOpenIn [u]) with units := t.units } ∧
      ∀ v, t.unit v = if v = u then (s.unit u).exiting overlocked else s.unit v := by
  intro t
  rw [State.leftOpenIn_singleton]
  by_cases harm : (s.unit u).arm = .disarmed
  · by_cases hopen : (s.unit u).contact = .opened
    · have ht : t = s.raiseAlarm u .leftOpen := by simp [t, State.exitUnit, harm, hopen]
      rw [ht, State.raiseAlarm_eq, if_pos ⟨harm, hopen⟩]
      exact ⟨rfl, fun v => by simp [State.setUnit_unit, UnitRecord.exiting, harm, hopen]⟩
    · have ht : t = s.setArm u (if overlocked then .overlock else .armed) := by simp [t, State.exitUnit, harm, hopen]
      have hvisit : (s.unit u).toArm (if overlocked then .overlock else .armed) = (s.unit u).exiting overlocked := by
        cases overlocked <;> simp [UnitRecord.toArm, UnitRecord.exiting, harm, hopen]
      rw [ht, State.setArm_eq, hvisit, if_neg fun h => hopen h.2]
      exact ⟨rfl, fun v => State.setUnit_unit _ _ _ _⟩
  · have ht : t = s := by simp [t, State.exitUnit, harm]
    have hstays : (s.unit u).exiting overlocked = s.unit u := by simp [UnitRecord.exiting, harm]
    rw [ht, hstays, if_neg fun h => harm h.1]
    exact ⟨rfl, fun v => by split_ifs with h <;> simp [h]⟩

/-- The moves of the units of a list without repetition, one after another, in terms of the state before the first. -/
theorem State.exitUnits_eq (overlocked : Bool) (s : State) (us : List Nat) (hn : us.Nodup) :
    let t := us.foldl (State.exitUnit overlocked) s
    t = { s.logged (s.leftOpenIn us) with units := t.units } ∧
      ∀ v, t.unit v = if v ∈ us then (s.unit v).exiting overlocked else s.unit v := by
  induction us using List.reverseRecOn with
  | nil => exact ⟨rfl, by simp⟩
  | append_singleton us u ih =>
    obtain ⟨hus, -, hdisjoint⟩ := List.nodup_append.1 hn
    have hu : u ∉ us := fun h => hdisjoint u h u (List.mem_singleton_self u) rfl
    obtain ⟨ih1, ih2⟩ := ih hus
    intro t
    have ht : t = (us.foldl (State.exitUnit overlocked) s).exitUnit overlocked u := by simp [t]
    generalize us.foldl (State.exitUnit overlocked) s = a at *
    obtain ⟨h1, h2⟩ := a.exitUnit_eq overlocked u
    rw [← ht] at h1 h2
    have hunit : a.unit u = s.unit u := by rw [ih2, if_neg hu]
    have hevents : a.leftOpenIn [u] = s.leftOpenIn [u] := by simp only [State.leftOpenIn_singleton, hunit]
    refine ⟨?_, fun v => ?_⟩
    · rw [h1, hevents, ih1, State.logged_units, State.leftOpenIn_append, State.logged_append]
    · rw [h2, hunit, ih2]
      by_cases hv : v = u
      · simp [hv]
      · simp [hv]

/-- The exit hand-off changes units, each as `unitLeft` says, and records those left open (R110). -/
theorem State.exitHandoff_eq (s : State) (slot : Nat) (hn : (s.tenant slot).units.Nodup) :
    s.exitHandoff slot = { s.logged (s.leftOpen slot) with units := (s.exitHandoff slot).units } ∧
      ∀ u, (s.exitHandoff slot).unit u = s.unitLeft slot u := by
  let overlocked := decide ((s.tenant slot).state = .overlocked)
  let moved := (s.tenant slot).units.foldl (State.exitUnit overlocked) s
  obtain ⟨hmoved, hunits⟩ := s.exitUnits_eq overlocked (s.tenant slot).units hn
  obtain ⟨hcleared, hmarks⟩ := foldl_units (P := fun _ => True)
    (f := fun s u => s.setUnit u { s.unit u with visit := false }) (g := fun x => { x with visit := false })
    (fun _ _ _ => trivial) (fun _ => rfl) (s.tenant slot).units (fun _ _ _ _ => .inl rfl) moved trivial
  refine ⟨?_, fun u => ?_⟩
  · calc s.exitHandoff slot = { moved with units := (s.exitHandoff slot).units } := hcleared
      _ = _ := by rw [show moved = _ from hmoved, State.leftOpen_eq]
  · rw [show (s.exitHandoff slot).unit u = _ from hmarks u, show moved.unit u = _ from hunits u]
    by_cases hu : u ∈ (s.tenant slot).units <;> simp [State.unitLeft, UnitRecord.exiting, overlocked, hu]

/-! ### The orphan checks (R48) -/

theorem State.isOrphan_iff (s : State) (kind : CompletionKind) (h : Holder) (r : Option Reservation) :
    s.isOrphan kind h r = true ↔ s.orphaned kind h r := by
  have hplace : (placeOf r = false) ↔ ∀ x ∈ r, x.place = false := by cases r <;> simp [placeOf]
  have hclaim : (claimOf r).isNone = true ↔ ∀ x ∈ r, x.claim = none := by cases r <;> simp [claimOf]
  simp only [State.isOrphan, State.orphaned, Bool.or_eq_true, Bool.and_eq_true, beq_iff_eq, bne_iff_ne, Bool.not_eq_true',
    decide_eq_true_eq, hplace, hclaim, or_assoc, and_assoc]

/-! ### The roster's change (R49 to R51) -/

theorem removePresence_eq (slot : Nat) (r : List Presence) : removePresence slot r = r.filter fun p => p.slot ≠ slot :=
  List.filter_congr fun _ _ => by simp [bne, beq_eq_decide]

/-- No record is taken out for a tenant who has none. -/
theorem removePresence_of_absent {s : State} {slot : Nat} (h : s.isPresent slot = false) :
    removePresence slot s.roster = s.roster := by
  rw [removePresence, List.filter_eq_self]
  intro p hp
  simp only [State.isPresent, State.presence, Option.isSome_eq_false_iff, Option.isNone_iff_eq_none, List.find?_eq_none] at h
  simpa using h p hp

/-- The record appended for an absent tenant, by role and phase (R49). -/
theorem State.arrival_eq (s : State) (slot : Nat) :
    s.arrival slot =
      { slot, arrival := s.clock.minute, floor := 0, state := (arrivalState (s.tenant slot).role s.clock.phase).1
        countdown := (arrivalState (s.tenant slot).role s.clock.phase).2 } := by
  unfold State.arrival arrivalState
  cases (s.tenant slot).role with
  | staff => rfl
  | tenant => cases s.clock.phase <;> rfl

/-- The roster's part of an ENTRY completion, for a tenant present and for one absent (R49). -/
theorem State.enter_eq (s : State) (slot : Nat) :
    s.enter slot =
      { s.logged (if s.isPresent slot = false ∧ (s.arrival slot).state = .overstay then [.overstay slot 0] else []) with
        roster := if s.isPresent slot then rosterMoved slot 0 s.roster else s.roster ++ [s.arrival slot] } := by
  rw [State.enter, State.arrival_eq]
  cases s.isPresent slot with
  | true => rfl
  | false =>
    by_cases hover : (arrivalState (s.tenant slot).role s.clock.phase).1 = .overstay
    · simp [hover, State.append, State.setLog, State.setRoster]
    · simp [hover, State.setRoster]

/-- The same with the completion record after it. -/
theorem State.enter_append_eq (s : State) (slot : Nat) (done : Event) :
    (s.enter slot).append done =
      { s.logged ((if s.isPresent slot = false ∧ (s.arrival slot).state = .overstay then [.overstay slot 0] else []) ++
          [done]) with
        roster := if s.isPresent slot then rosterMoved slot 0 s.roster else s.roster ++ [s.arrival slot] } := by
  rw [State.enter_eq, State.logged_append]
  rfl

/-! ### The completion -/

/-- An ENTRY completion that passes the checks: the roster's change, the completion record, the entry hand-off (R49, R109). -/
theorem State.entry_completes (s : State) (slot : Nat) (done : Event) :
    let t := ((s.enter slot).append done).entryHandoff slot
    (∀ u, t.unit u = s.unitEntered slot u) ∧
      t = { s.logged ((if s.isPresent slot = false ∧ (s.arrival slot).state = .overstay then [.overstay slot 0] else []) ++
              [done]) with
            units := t.units
            roster := if s.isPresent slot then rosterMoved slot 0 s.roster else s.roster ++ [s.arrival slot] } := by
  intro t
  have ha := s.enter_append_eq slot done
  obtain ⟨hframe, hunits⟩ := ((s.enter slot).append done).entryHandoff_eq slot
  refine ⟨fun u => ?_, ?_⟩
  · calc t.unit u = ((s.enter slot).append done).unitEntered slot u := hunits u
      _ = s.unitEntered slot u := by rw [ha, State.logged_frame]; rfl
  · exact hframe.trans (congrArg (fun a : State => { a with units := t.units }) ha)

/-- An EXIT completion that passes the checks, of a tenant present: the record taken out, the completion record, the exit
hand-off (R50, R110). -/
theorem State.exit_completes (s : State) (slot : Nat) (done : Event) (hn : (s.tenant slot).units.Nodup) :
    let t := ((s.setRoster (removePresence slot s.roster)).append done).exitHandoff slot
    (∀ u, t.unit u = s.unitLeft slot u) ∧
      t = { s.logged (done :: s.leftOpen slot) with
            units := t.units, roster := s.roster.filter fun p => p.slot ≠ slot } := by
  intro t
  let a := (s.setRoster (removePresence slot s.roster)).append done
  obtain ⟨hframe, hunits⟩ := a.exitHandoff_eq slot hn
  have hlog : a.logged (a.leftOpen slot) =
      { s.logged (done :: s.leftOpen slot) with roster := s.roster.filter fun p => p.slot ≠ slot } := by
    rw [← removePresence_eq]
    exact State.logged_roster (s.leftOpen slot) (s.append done) _
  exact ⟨hunits, hframe.trans (congrArg (fun b : State => { b with units := t.units }) hlog)⟩

/-- A completion does what R48 to R52 say, where no tenant's list names a unit twice (R7). -/
theorem State.complete_completes (s : State) (kind : CompletionKind) (h : Option Holder) (r : Option Reservation) (dest : Nat)
    (subject : Subject) (done : Event) (hn : ∀ i, (s.tenant i).units.Nodup) :
    s.completes (s.complete kind h r dest subject done) kind h r dest subject done := by
  match h with
  | none => exact rfl
  | some h =>
    refine ⟨fun horphan => if_pos ((s.isOrphan_iff kind h r).2 horphan), fun hcounts => ?_⟩
    have ht : s.complete kind (some h) r dest subject done =
        ((s.rosterComplete kind h.slot dest).append done).armingHandoff kind h.slot (s.isPresent h.slot) :=
      if_neg fun ho => hcounts ((s.isOrphan_iff kind h r).1 ho)
    rw [ht]
    cases kind with
    | entry => exact s.entry_completes h.slot done
    | exit =>
      cases hpresent : s.isPresent h.slot with
      | true => exact s.exit_completes h.slot done (hn h.slot)
      | false =>
        show (s.setRoster (removePresence h.slot s.roster)).append done = s.append done
        rw [removePresence_of_absent hpresent]
        rfl
    | zone => exact rfl
    | alight => exact rfl

/-- The roster's change and the hand-offs of a completion leave every station slot. -/
theorem State.station_eq_of_completes {s t : State} {kind : CompletionKind} {h : Option Holder} {r : Option Reservation}
    {dest : Nat} {subject : Subject} {done : Event} (hc : s.completes t kind h r dest subject done) (n : Nat) :
    t.station n = s.station n := by
  match h with
  | none =>
    have ht : t = s.append done := hc
    rw [ht, State.append_station]
  | some h =>
    obtain ⟨horphan, hcounts⟩ := hc
    by_cases ho : s.orphaned kind h r
    · rw [horphan ho, State.append_station]
    · replace hcounts := hcounts ho
      cases kind with
      | entry => rw [hcounts.2, State.logged_frame]; rfl
      | exit =>
        dsimp only at hcounts
        split at hcounts
        case isTrue => rw [hcounts.2, State.logged_frame]; rfl
        case isFalse => rw [hcounts, State.append_station]
      | zone | alight => rw [hcounts]; rfl

end Sys2Proof.Machine
end

section
/-! The FIELD and LIFT write frames (R170, R174), and how the field ends a passage and takes stations on and off line (R63, R64,
R81 to R84): each block's answer by its checks in order, then the frame that carries it. -/

namespace Sys2Proof.Machine

/-! ### Taking a whole write frame, by the block's answer -/

section
variable {s : State} {p : Port} {c : Command} {args : List Byte} {l : Lines} {e : ResultCode × State}

/-- A whole FIELD write frame other than PRESENT that passes the checks of R170 and whose block answers `e`. -/
theorem exec_fieldWrite (c : Command) (h : s.takes .field) (hc : c ≠ .present) (hr : isRead c = false)
    (hp : permitted c .field = true) (ha : argumentBytes c s.loader args ≤ args.length) (he : runCommand c l args s = e) :
    exec (frameInstr c (whole .field args l)) s = .next (s.taken e.2 .field e.1 (args.length + 1)) :=
  he ▸ exec_write c h hr hp ha fun hrep => hc (Option.some.inj hrep).symm

/-- A port's repeat command that is refused leaves the repeat mode as it stands (R174). -/
theorem State.enterRepeat_refused {r : ResultCode} (hr : r ≠ .ok) : s.enterRepeat p c args r = s := by
  simp [State.enterRepeat, hr]

/-- A port's repeat command, taken outside repeat mode, leaves the mode as its repeat flag says (R174). -/
theorem State.enterRepeat_ok (hc : repeatCommand p = some c) (h : (s.port p).repeating = false) :
    s.enterRepeat p c args .ok = s.setPort p { s.port p with repeating := (byteAt args 0).getLsbD 7 } := by
  unfold State.enterRepeat repeatFlag
  cases (byteAt args 0).getLsbD 7 with
  | true => rw [if_pos ⟨hc, rfl, rfl⟩]
  | false =>
    have hsame : s = s.setPort p { s.port p with repeating := (s.port p).repeating } := by cases p <;> rfl
    rw [if_neg (by simp), ← h]
    exact hsame

/-- A whole frame of a port's repeat command that passes the checks of R170 and whose block refuses it. -/
theorem exec_repeatCommand_refused (h : s.takes p) (hr : isRead c = false) (hp : permitted c p = true)
    (ha : argumentBytes c s.loader args ≤ args.length) {r : ResultCode} (hne : r ≠ .ok) (he : runCommand c l args s = (r, s)) :
    exec (frameInstr c (whole p args l)) s = .next (s.untaken p r (args.length + 1)) := by
  rw [exec_frameInstr, commandFrame_write h hr hp ha, he]
  simp only [State.enterRepeat_refused hne]
  rfl

/-- The same where the block takes it: the port is in repeat mode exactly where the repeat flag is set (R174). -/
theorem exec_repeatCommand_taken (hc : repeatCommand p = some c) (h : s.takes p) (hr : isRead c = false)
    (hp : permitted c p = true) (ha : argumentBytes c s.loader args ≤ args.length) {t : State}
    (hport : t.port p = s.port p) (he : runCommand c l args s = (.ok, t)) :
    exec (frameInstr c (whole p args l)) s =
      .next (s.taken (t.setPort p { s.port p with repeating := (byteAt args 0).getLsbD 7 }) p .ok (args.length + 1)) := by
  have hrep : (t.port p).repeating = false := by rw [hport]; exact h.2
  rw [exec_frameInstr, commandFrame_write h hr hp ha, he]
  simp only [State.enterRepeat_ok hc hrep, hport]
  rfl

end

/-! ### The end of a passage, by its gate channel (R84) -/

section
variable {s : State} {n : Nat} {p : Passage}

theorem State.abandonPassage_open (hp : p.channel = none) (cause : AbandonCause) :
    s.abandonPassage n p cause =
      (s.append (.passageAbandoned cause n p.tenant)).setStation n
        { s.station n with state := if cause = .offline then .offline else .ready } := by
  rw [State.abandonPassage_eq, hp]
  rfl

/-- A gate channel that carries the passage stops carrying it. -/
theorem State.abandonPassage_gate {c : Nat} (hp : p.channel = some c) (cause : AbandonCause) :
    s.abandonPassage n p cause =
      let ended := (s.append (.passageAbandoned cause n p.tenant)).setStation n
        { s.station n with state := if cause = .offline then .offline else .ready }
      if (s.channel c).carried = some n then ended.setChannel c { s.channel c with carried := none } else ended := by
  rw [State.abandonPassage_eq, hp]
  rfl

end

/-! ### STATION ONLINE and STATION OFFLINE (R63, R64) -/

/-- STATION ONLINE, by its checks in order (R63). -/
theorem runStationOnline_eq (args : List Byte) (s : State) :
    runStationOnline args s =
      let n := numberOf (byteAt args 0)
      if 64 ≤ n then (.badArgument, s)
      else if (s.station n).state ≠ .offline then (.state, s)
      else (.ok, s.setStation n { s.station n with state := .ready }) := by
  simp [runStationOnline, State.setSlot, -not_le]

/-- STATION OFFLINE, by its checks in order (R64). -/
theorem runStationOffline_eq (args : List Byte) (s : State) :
    runStationOffline args s =
      let n := numberOf (byteAt args 0)
      if 64 ≤ n then (.badArgument, s)
      else if (s.station n).state = .offline then (.state, s)
      else (.ok, s.takeOffline n) := by
  simp [runStationOffline, -not_le]

section
variable {s : State} {n : Nat}

/-- A passage in flight is abandoned as its station goes off line (R64). -/
theorem State.takeOffline_passage {p : Passage} (h : (s.station n).state = .passage p) :
    s.takeOffline n = s.abandonPassage n p .offline := by
  simp [State.takeOffline, h]

/-- Anything else the slot was doing is dropped. -/
theorem State.takeOffline_idle (h : ∀ p, (s.station n).state ≠ .passage p) :
    s.takeOffline n = s.setStation n { s.station n with state := .offline } := by
  unfold State.takeOffline
  split
  case h_1 p hp => exact absurd hp (h p)
  case h_2 => rfl

end

/-- Settles O22: each command's answer by its checks, carried through the FIELD frame; OFFLINE by the state it leaves. -/
theorem stationOnlineAndOffline : Obligations.StationOnlineAndOffline := by
  intro s l args h ha k n
  refine ⟨?online, ?offline⟩
  case online =>
    refine (exec_fieldWrite .stationOnline h nofun rfl rfl ha (runStationOnline_eq args s)).trans ?_
    dsimp only
    split_ifs <;> rfl
  case offline =>
    refine (exec_fieldWrite .stationOffline h nofun rfl rfl ha (runStationOffline_eq args s)).trans ?_
    dsimp only
    by_cases hn : 64 ≤ n
    · rw [if_pos hn, if_pos hn]
      rfl
    rw [if_neg hn, if_neg hn]
    cases hstate : (s.station n).state with
    | offline => rfl
    | ready => rw [if_neg nofun, State.takeOffline_idle (by simp [n, hstate])]
    | pending r => rw [if_neg nofun, State.takeOffline_idle (by simp [n, hstate])]
    | passage p =>
      rw [if_neg nofun, State.takeOffline_passage hstate]
      dsimp only
      cases hp : p.channel with
      | none => rw [State.abandonPassage_open hp]; rfl
      | some c => rw [State.abandonPassage_gate hp]; rfl

/-! ### PASSED, NO PASSAGE and the window deadline (R78, R81 to R84) -/

section
variable {s : State} {args : List Byte} {act : Nat → Passage → State}

theorem endByField_unlisted (hn : 64 ≤ numberOf (byteAt args 0)) : endByField args s act = (.badArgument, s) := if_pos hn

/-- A station that holds no passage, or one at a gate channel, is refused (R82). -/
theorem endByField_refused (hn : numberOf (byteAt args 0) < 64)
    (h : ∀ p, (s.station (numberOf (byteAt args 0))).state = .passage p → p.channel ≠ none) :
    endByField args s act = (.state, s) := by
  have hopen : s.openPassage (numberOf (byteAt args 0)) = none := by
    unfold State.openPassage
    split
    case h_1 p hp => simp [h p hp]
    case h_2 => rfl
  simp [endByField, hopen, Nat.not_le.2 hn]

/-- A passage without a gate channel is ended (R82). -/
theorem endByField_taken {p : Passage} (hn : numberOf (byteAt args 0) < 64)
    (hstate : (s.station (numberOf (byteAt args 0))).state = .passage p) (hp : p.channel = none) :
    endByField args s act = (.ok, act (numberOf (byteAt args 0)) p) := by
  have hopen : s.openPassage (numberOf (byteAt args 0)) = some p := by simp [State.openPassage, hstate, hp]
  simp [endByField, hopen, Nat.not_le.2 hn]

/-- The whole frame of a command that ends a passage by the field, by the checks PASSED and NO PASSAGE share (R82). -/
theorem exec_endByField (c : Command) {l : Lines} (h : s.takes .field) (hc : c ≠ .present) (hr : isRead c = false)
    (hf : permitted c .field = true) (ha : argumentBytes c s.loader args ≤ args.length)
    (he : runCommand c l args s = endByField args s act) :
    let k := args.length + 1
    let n := numberOf (byteAt args 0)
    (64 ≤ n → exec (frameInstr c (whole .field args l)) s = .next (s.untaken .field .badArgument k)) ∧
      (n < 64 → (∀ p, (s.station n).state = .passage p → p.channel ≠ none) →
        exec (frameInstr c (whole .field args l)) s = .next (s.untaken .field .state k)) ∧
      ∀ p, n < 64 → (s.station n).state = .passage p → p.channel = none →
        exec (frameInstr c (whole .field args l)) s = .next (s.taken (act n p) .field .ok k) :=
  ⟨fun hn => exec_fieldWrite c h hc hr hf ha (he.trans (endByField_unlisted hn)),
    fun hn hs => exec_fieldWrite c h hc hr hf ha (he.trans (endByField_refused hn hs)),
    fun _ hn hstate hp => exec_fieldWrite c h hc hr hf ha (he.trans (endByField_taken hn hstate hp))⟩

end

section
variable {s : State} {n : Nat} {p : Passage}

/-- A passage without a gate channel completes and leaves its slot READY (R83). -/
theorem State.completePassage_open (hp : p.channel = none) (hn : ∀ i, (s.tenant i).units.Nodup) :
    s.completePassage n p =
      (s.complete p.kind.completion p.holder p.reservation (p.destination.getD 0) (.station n) (p.doneEvent n)).setStation n
        { s.station n with state := .ready } := by
  rw [State.completePassage, State.endPassage, hp, State.detach_none,
    State.station_eq_of_completes (s.complete_completes _ _ _ _ _ _ hn)]

/-- The window deadline ends a WINDOW-governed passage (R78). -/
theorem State.windowDeadline_window {d : Nat} (h : (s.station n).state = .passage p) (hg : p.governor = .window d) :
    s.windowDeadline n = s.abandonPassage n p .timeout := by
  simp [State.windowDeadline, h, hg]

/-- Where no WINDOW-governed passage stands, the deadline finds nothing to end (R77, R84). -/
theorem State.windowDeadline_else (h : ∀ p d, (s.station n).state = .passage p → p.governor ≠ .window d) :
    s.windowDeadline n = s := by
  unfold State.windowDeadline
  split
  case h_1 p hp =>
    cases hg : p.governor with
    | release => exact if_pos rfl
    | window d => exact absurd hg (h p d hp)
  case h_2 => rfl

theorem exec_passageWindowDeadline (n : Fin 64) (h : s.running = true) :
    exec (.passageWindowDeadline n) s = .next (s.windowDeadline n) :=
  congrArg Host.Outcome.next (if_pos h)

end

/-- Settles O29: the two commands by the passage they find, PASSED by what a completion does; the deadline by the governor. -/
theorem passagesEndByTheField : Obligations.PassagesEndByTheField := by
  refine ⟨fun s l args h ha => ?passed, fun s l args => ⟨fun h ha => ?noPassage, fun n hrun => ⟨?window, ?otherwise⟩⟩⟩
  case passed =>
    obtain ⟨hbad, hstate, htaken⟩ :=
      exec_endByField (l := l) (act := fun n p => s.completePassage n p) .passed h nofun rfl rfl ha rfl
    refine ⟨hbad, hstate, fun p hn hs hp hunits => ?_⟩
    have hcompletes := s.complete_completes p.kind.completion p.holder p.reservation (p.destination.getD 0)
      (.station (numberOf (byteAt args 0))) (p.doneEvent (numberOf (byteAt args 0))) hunits
    exact ⟨_, (htaken p hn hs hp).trans (by rw [State.completePassage_open hp hunits]), hcompletes⟩
  case noPassage =>
    obtain ⟨hbad, hstate, htaken⟩ :=
      exec_endByField (l := l) (act := fun n p => s.abandonPassage n p .noPassage) .noPassage h nofun rfl rfl ha rfl
    refine ⟨hbad, hstate, fun p hn hs hp => (htaken p hn hs hp).trans ?_⟩
    rw [State.abandonPassage_open hp]
    rfl
  case window =>
    intro p d hstate hg
    rw [exec_passageWindowDeadline n hrun, State.windowDeadline_window hstate hg]
    dsimp only
    cases hp : p.channel with
    | none => rw [State.abandonPassage_open hp]; rfl
    | some c => rw [State.abandonPassage_gate hp]; rfl
  case otherwise => exact fun h => by rw [exec_passageWindowDeadline n hrun, State.windowDeadline_else h]

end Sys2Proof.Machine
end

section
/-! PRESENT and CAR QUERY (R65, R90, R174): each block's answer by its checks in order, then the frame of the port's repeat
command that carries it. -/

namespace Sys2Proof.Machine

/-! ### PRESENT (R65) -/

/-- The effective configuration, as the statements say it (R61). -/
theorem State.effectiveConfig_eq (s : State) (n : Nat) :
    s.effectiveConfig n =
      { type := s.mapType n
        floor := s.mapFloor n
        channel :=
          if 16 ≤ s.mapChannel n ∨
              ((List.range n).any fun m => s.mapType m ≠ .none ∧ s.mapChannel m = s.mapChannel n) then none
          else some (s.mapChannel n) } := by
  have hnames : s.namesChannel (s.mapChannel n) = fun m => decide (s.mapType m ≠ .none ∧ s.mapChannel m = s.mapChannel n) := by
    funext m
    simp [State.namesChannel, Bool.decide_and, bne, beq_eq_decide]
  simp only [State.effectiveConfig, hnames, Bool.or_eq_true, decide_eq_true_eq]

/-- A slot that is neither OFFLINE nor READY is busy. -/
theorem SlotState.isBusy_iff {x : SlotState} (h : x ≠ .offline) : x.isBusy = true ↔ x ≠ .ready := by
  cases x <;> simp_all [SlotState.isBusy]

section
variable {s : State} {args : List Byte}

theorem runPresent_invalid (h : credentialOf (byteAt args 1) (longAt args 2) = none) :
    runPresent args s = (.badArgument, s) := by
  simp [runPresent, h]

/-- PRESENT of a valid credential, by its checks in order (R65). -/
theorem runPresent_valid {c : Credential} (h : credentialOf (byteAt args 1) (longAt args 2) = some c) :
    runPresent args s =
      let n := numberOf (byteAt args 0)
      if 64 ≤ n then (.badArgument, s)
      else if (s.station n).state = .offline then (.offline, s)
      else if (s.station n).state ≠ .ready then (.slotBusy, s)
      else if s.mapType n = .none then (.state, s)
      else
        (.ok, s.setStation n
          { s.station n with state := .pending { credential := c, config := s.effectiveConfig n } }) := by
  have htype : (s.effectiveConfig (numberOf (byteAt args 0))).type = s.mapType (numberOf (byteAt args 0)) := rfl
  simp only [runPresent, h, answer_cons, answer_nil, decide_eq_true_eq, beq_iff_eq, htype, State.setSlot]
  by_cases hoff : (s.station (numberOf (byteAt args 0))).state = .offline
  · simp only [hoff, if_true]
  · simp only [hoff, if_false, SlotState.isBusy_iff hoff]

/-! ### CAR QUERY (R90) -/

theorem runCarQuery_invalid (h : credentialOf (byteAt args 1) (longAt args 2) = none) :
    runCarQuery args s = (.badArgument, s) := by
  simp [runCarQuery, h]

/-- CAR QUERY of a valid credential, by its checks in order (R90). -/
theorem runCarQuery_valid {c : Credential} (h : credentialOf (byteAt args 1) (longAt args 2) = some c) :
    runCarQuery args s =
      let n := numberOf (byteAt args 0)
      if 4 ≤ n ∨ 16 ≤ natAt args 6 then (.badArgument, s)
      else if (s.car n).state ≠ .idle then (.slotBusy, s)
      else (.ok, s.setCar n { s.car n with state := .pending { credential := c, floor := natAt args 6 } }) := by
  simp only [runCarQuery, h, answer_cons, answer_nil, Bool.or_eq_true, decide_eq_true_eq, bne_iff_ne, State.setCarState]

end

/-- Settles O23: each command's answer by its checks, carried through the frame of its port's repeat command. -/
theorem presentationsAndQueriesAreBuffered : Obligations.PresentationsAndQueriesAreBuffered := by
  refine ⟨fun s l args h ha => ?present, fun s l args h ha => ?carQuery⟩
  case present =>
    have hrefused {r : ResultCode} := exec_repeatCommand_refused (c := .present) (l := l) (r := r) h rfl rfl ha
    have htaken {t : State} := exec_repeatCommand_taken (c := .present) (l := l) (t := t) rfl h rfl rfl ha
    intro k n
    cases hc : credentialOf (byteAt args 1) (longAt args 2) with
    | none => exact hrefused nofun (runPresent_invalid hc)
    | some c =>
      have he := runPresent_valid (s := s) hc
      dsimp only at he ⊢
      rw [← State.effectiveConfig_eq]
      split_ifs at he ⊢ with hn hoffline hbusy htype
      · exact hrefused nofun he
      · exact hrefused nofun he
      · exact hrefused nofun he
      · exact hrefused nofun he
      · exact htaken rfl he
  case carQuery =>
    have hrefused {r : ResultCode} := exec_repeatCommand_refused (c := .carQuery) (l := l) (r := r) h rfl rfl ha
    have htaken {t : State} := exec_repeatCommand_taken (c := .carQuery) (l := l) (t := t) rfl h rfl rfl ha
    intro k n
    cases hc : credentialOf (byteAt args 1) (longAt args 2) with
    | none => exact hrefused nofun (runCarQuery_invalid hc)
    | some c =>
      have he := runCarQuery_valid (s := s) hc
      dsimp only at he ⊢
      split_ifs at he ⊢
      · exact hrefused nofun he
      · exact hrefused nofun he
      · exact htaken rfl he

end Sys2Proof.Machine
end

section
/-! CAR ALIGHT, CAR CANCEL and TRIP_DEADLINE (R97 to R99): the answer of the checks the two commands share, carried through a LIFT
write frame, and the end of a trip as the statements say it. -/

namespace Sys2Proof.Machine

/-! ### The end of a trip (R97 to R99) -/

section
variable {s : State} {n : Nat} {tr : Trip}

/-- An ALIGHT completion does what R48, R51 and R52 say, whatever the units' lists hold: it hands nothing to unit arming. -/
theorem State.alight_completes (s : State) (h : Option Holder) (r : Option Reservation) (dest : Nat) (subject : Subject)
    (done : Event) : s.completes (s.complete .alight h r dest subject done) .alight h r dest subject done := by
  match h with
  | none => exact rfl
  | some h =>
    exact ⟨fun horphan => if_pos ((s.isOrphan_iff .alight h r).2 horphan),
      fun hcounts => if_neg fun ho => hcounts ((s.isOrphan_iff .alight h r).1 ho)⟩

/-- An ALIGHT completion leaves every car slot: it moves a presence record and appends to the log. -/
theorem State.car_eq_of_alight {t : State} {h : Option Holder} {r : Option Reservation} {dest : Nat} {subject : Subject}
    {done : Event} (hc : s.completes t .alight h r dest subject done) (n : Nat) : t.car n = s.car n := by
  match h with
  | none => rw [show t = s.append done from hc, State.append_car]
  | some h =>
    obtain ⟨horphan, hcounts⟩ := hc
    by_cases ho : s.orphaned .alight h r
    · rw [horphan ho, State.append_car]
    · rw [hcounts ho]
      rfl

/-- A trip that completes leaves its car IDLE with the verdict record it had (R97). -/
theorem State.completeTrip_eq (s : State) (n : Nat) (tr : Trip) :
    s.completeTrip n tr =
      (s.complete .alight tr.holder tr.reservation tr.destination (.car n)
        (.tripDone tr.destination n (tr.holder.map (·.slot)))).setCar n { s.car n with state := .idle } := by
  rw [← State.car_eq_of_alight (s.alight_completes _ _ _ _ _) n]
  rfl

/-- A trip that is abandoned leaves its record and its car IDLE, and nothing else (R98 to R100). -/
theorem State.abandonTrip_eq (s : State) (n : Nat) (tr : Trip) (cause : AbandonCause) :
    s.abandonTrip n tr cause =
      (s.append (.tripAbandoned cause n (tr.holder.map (·.slot)))).setCar n { s.car n with state := .idle } := rfl

/-- The trip deadline ends a car's trip (R99). -/
theorem State.tripDeadline_trip (h : (s.car n).state = .trip tr) : s.tripDeadline n = s.abandonTrip n tr .timeout := by
  simp [State.tripDeadline, h]

/-- A car that makes no trip has no deadline to act on. -/
theorem State.tripDeadline_else (h : ∀ tr, (s.car n).state ≠ .trip tr) : s.tripDeadline n = s := by
  unfold State.tripDeadline
  split
  case h_1 tr htr => exact absurd htr (h tr)
  case h_2 => rfl

theorem exec_tripDeadline (n : Fin 4) (h : s.running = true) : exec (.tripDeadline n) s = .next (s.tripDeadline n) :=
  congrArg Host.Outcome.next (if_pos h)

end

/-! ### CAR ALIGHT and CAR CANCEL (R97, R98) -/

section
variable {s : State} {args : List Byte} {act : Nat → Trip → State}

theorem endByLift_unlisted (hn : 4 ≤ numberOf (byteAt args 0)) : endByLift args s act = (.badArgument, s) := if_pos hn

/-- A car that makes no trip is refused. -/
theorem endByLift_refused (hn : numberOf (byteAt args 0) < 4)
    (h : ∀ tr, (s.car (numberOf (byteAt args 0))).state ≠ .trip tr) : endByLift args s act = (.state, s) := by
  refine (if_neg (Nat.not_le.2 hn)).trans ?_
  split
  case h_1 tr htr => exact absurd htr (h tr)
  case h_2 => rfl

/-- A car's trip is ended. -/
theorem endByLift_taken {tr : Trip} (hn : numberOf (byteAt args 0) < 4)
    (h : (s.car (numberOf (byteAt args 0))).state = .trip tr) :
    endByLift args s act = (.ok, act (numberOf (byteAt args 0)) tr) := by
  refine (if_neg (Nat.not_le.2 hn)).trans ?_
  simp only [h]

/-- A whole LIFT write frame other than CAR QUERY that passes the checks of R170 and whose block answers `e`. -/
theorem exec_liftWrite (c : Command) {l : Lines} {e : ResultCode × State} (h : s.takes .lift) (hc : c ≠ .carQuery)
    (hr : isRead c = false) (hp : permitted c .lift = true) (ha : argumentBytes c s.loader args ≤ args.length)
    (he : runCommand c l args s = e) :
    exec (frameInstr c (whole .lift args l)) s = .next (s.taken e.2 .lift e.1 (args.length + 1)) :=
  he ▸ exec_write c h hr hp ha fun hrep => hc (Option.some.inj hrep).symm

/-- The whole frame of a command that ends a trip by the lift, by the checks CAR ALIGHT and CAR CANCEL share (R97, R98). -/
theorem exec_endByLift (c : Command) {l : Lines} (h : s.takes .lift) (hc : c ≠ .carQuery) (hr : isRead c = false)
    (hp : permitted c .lift = true) (ha : argumentBytes c s.loader args ≤ args.length)
    (he : runCommand c l args s = endByLift args s act) :
    let k := args.length + 1
    let n := numberOf (byteAt args 0)
    (4 ≤ n → exec (frameInstr c (whole .lift args l)) s = .next (s.untaken .lift .badArgument k)) ∧
      (n < 4 → (∀ tr, (s.car n).state ≠ .trip tr) →
        exec (frameInstr c (whole .lift args l)) s = .next (s.untaken .lift .state k)) ∧
      ∀ tr, n < 4 → (s.car n).state = .trip tr →
        exec (frameInstr c (whole .lift args l)) s = .next (s.taken (act n tr) .lift .ok k) :=
  ⟨fun hn => exec_liftWrite c h hc hr hp ha (he.trans (endByLift_unlisted hn)),
    fun hn hs => exec_liftWrite c h hc hr hp ha (he.trans (endByLift_refused hn hs)),
    fun _ hn hs => exec_liftWrite c h hc hr hp ha (he.trans (endByLift_taken hn hs))⟩

end

/-- Settles O31: the two commands by the trip they find, CAR ALIGHT by what a completion does; the deadline by the car's state. -/
theorem tripsEnd : Obligations.TripsEnd := by
  refine fun s l args => ⟨fun h ha => ?commands, fun n hrun => ⟨?timeout, ?otherwise⟩⟩
  case commands =>
    obtain ⟨halightBad, halightState, halight⟩ :=
      exec_endByLift (l := l) (act := fun n tr => s.completeTrip n tr) .carAlight h nofun rfl rfl ha rfl
    obtain ⟨hcancelBad, hcancelState, hcancel⟩ :=
      exec_endByLift (l := l) (act := fun n tr => s.abandonTrip n tr .cancel) .carCancel h nofun rfl rfl ha rfl
    refine ⟨fun hn => ⟨halightBad hn, hcancelBad hn⟩, fun hn hs => ⟨halightState hn hs, hcancelState hn hs⟩,
      fun tr hn hs => ⟨?alight, ?cancel⟩⟩
    case alight =>
      exact ⟨_, (halight tr hn hs).trans (by rw [State.completeTrip_eq]), s.alight_completes _ _ _ _ _⟩
    case cancel => exact (hcancel tr hn hs).trans (by rw [State.abandonTrip_eq])
  case timeout =>
    intro tr hs
    rw [exec_tripDeadline n hrun, State.tripDeadline_trip hs, State.abandonTrip_eq]
  case otherwise => exact fun hs => by rw [exec_tripDeadline n hrun, State.tripDeadline_else hs]

end Sys2Proof.Machine
end

section
/-! What an event can write, part by part. `Only ps s t` says that `t` is `s` but for the parts `ps`; each operation of the blocks
gets the parts it writes, once, and each command and event the table of its parts. A law that reads none of them is kept. -/

namespace Sys2Proof.Machine

set_option Elab.async false -- one thread for the file, as in the tests: a thread for each theorem reaches the memory limit

/-! ### Parts of the state -/

/-- `h` is `g` after a run of appends (R165). -/
def Log.Grows (g h : Log) : Prop := ∃ es : List (Nat × Event), h = es.foldl (fun g e => g.append e.1 e.2) g

theorem Log.Grows.refl (g : Log) : Log.Grows g g := ⟨[], rfl⟩

theorem Log.Grows.trans {g h k : Log} : Log.Grows g h → Log.Grows h k → Log.Grows g k := by
  rintro ⟨es, rfl⟩ ⟨fs, rfl⟩
  exact ⟨es ++ fs, List.foldl_append.symm⟩

/-- The parts of the state that effects are told apart by. -/
inductive Part where
  | office | ports | cursor | tenants | units | profiles | clock | roster | stations | cars | channels | strike | loader | params
  | timers | control | power | now | log | queue

/-- The part is the same in both states; of the log, that it has been appended to at most. -/
def Part.same (s t : State) : Part → Prop
  | .office => t.office = s.office
  | .ports => t.lift = s.lift ∧ t.field = s.field ∧ t.fills = s.fills
  | .cursor => t.cursor = s.cursor
  | .tenants => t.tenants = s.tenants
  | .units => t.units = s.units
  | .profiles => t.profiles = s.profiles
  | .clock => t.clock = s.clock
  | .roster => t.roster = s.roster
  | .stations => t.stations = s.stations
  | .cars => t.cars = s.cars
  | .channels => t.channels = s.channels
  | .strike => t.strike = s.strike
  | .loader => t.loader = s.loader
  | .params => t.params = s.params
  | .timers => t.window = s.window ∧ t.sweep = s.sweep
  | .control => t.control = s.control
  | .power => t.power = s.power
  | .now => t.now = s.now
  | .log => Log.Grows s.log t.log
  | .queue => t.pending = s.pending

theorem Part.same_refl (s : State) (q : Part) : q.same s s := by
  cases q
  case log => exact Log.Grows.refl _
  case ports => exact ⟨rfl, rfl, rfl⟩
  case timers => exact ⟨rfl, rfl⟩
  all_goals rfl

theorem Part.same_trans {s t u : State} {q : Part} (h : q.same s t) (k : q.same t u) : q.same s u := by
  cases q
  case log => exact Log.Grows.trans h k
  case ports =>
    obtain ⟨h1, h2, h3⟩ := h
    obtain ⟨k1, k2, k3⟩ := k
    exact ⟨k1.trans h1, k2.trans h2, k3.trans h3⟩
  case timers => exact ⟨k.1.trans h.1, k.2.trans h.2⟩
  all_goals exact Eq.trans k h

def Part.isIn (q : Part) (ps : List Part) : Bool := ps.any fun p => p.ctorIdx == q.ctorIdx

def subParts (ps qs : List Part) : Bool := ps.all fun p => p.isIn qs

/-- The two lists have a part in common. -/
def meets (ps qs : List Part) : Bool := ps.any fun p => p.isIn qs

theorem Part.isIn_mono {q : Part} {ps qs : List Part} (h : subParts ps qs = true) (hq : q.isIn ps = true) : q.isIn qs = true := by
  simp only [Part.isIn, subParts, List.any_eq_true, List.all_eq_true, beq_iff_eq] at *
  obtain ⟨p, hp, hpq⟩ := hq
  obtain ⟨r, hr, hrp⟩ := h p hp
  exact ⟨r, hr, hrp.trans hpq⟩

/-- `t` is `s` but for the parts `ps`. -/
def Only (ps : List Part) (s t : State) : Prop := ∀ q : Part, q.isIn ps = false → q.same s t

section
variable {ps qs rs : List Part} {s t u : State}

theorem Only.refl : Only ps s s := fun q _ => q.same_refl s

theorem Only.mono (h : Only ps s t) (hps : subParts ps qs = true := by rfl) : Only qs s t := fun q hq =>
  h q (Bool.eq_false_iff.2 fun hp => by rw [Part.isIn_mono hps hp] at hq; exact nomatch hq)

theorem Only.trans (h : Only ps s t) (k : Only qs t u) (hps : subParts ps rs = true := by rfl)
    (hqs : subParts qs rs = true := by rfl) : Only rs s u := fun q hq =>
  Part.same_trans (h.mono hps q hq) (k.mono hqs q hq)

theorem Only.ite {c : Prop} [Decidable c] (ht : Only ps s t) (hu : Only ps s u) : Only ps s (if c then t else u) := by
  split
  exacts [ht, hu]

theorem Only.foldl {β : Type} {f : State → β → State} (hf : ∀ s b, Only ps s (f s b)) (bs : List β) (s : State) :
    Only ps s (bs.foldl f s) :=
  foldl_keeps (p := Only ps s) (fun _ b h q hq => Part.same_trans (h q hq) (hf _ b q hq)) bs Only.refl

theorem Only.forEach {f : Nat → State → State} (hf : ∀ i s, Only ps s (f i s)) (n : Nat) (s : State) :
    Only ps s (s.forEach n f) := Only.foldl (fun s i => hf i s) _ s

/-- A block's answer leaves the state or makes its effect. -/
theorem Only.answer {effect : State} (h : Only ps s effect) (checks : List (Bool × ResultCode)) :
    Only ps s (answer checks s effect).2 := by
  rcases answer_cases checks s effect with hs | he
  · rw [hs]; exact .refl
  · rw [he]; exact h

end

/-! ### Named writes -/

section
variable (s : State)

theorem State.setTenant_only (i : Nat) (r : TenantRecord) : Only [.tenants] s (s.setTenant i r) := by
  intro q hq
  cases q
  case tenants => exact nomatch hq
  all_goals simp [Part.same, Log.Grows.refl]

theorem State.setUnit_only (u : Nat) (r : UnitRecord) : Only [.units] s (s.setUnit u r) := by
  intro q hq
  cases q
  case units => exact nomatch hq
  all_goals simp [Part.same, Log.Grows.refl]

theorem State.setProfile_only (i : Nat) (r : ProfileRecord) : Only [.profiles] s (s.setProfile i r) := by
  intro q hq
  cases q
  case profiles => exact nomatch hq
  all_goals simp [Part.same, Log.Grows.refl]

theorem State.setStation_only (n : Nat) (r : StationSlot) : Only [.stations] s (s.setStation n r) := by
  intro q hq
  cases q
  case stations => exact nomatch hq
  all_goals simp [Part.same, Log.Grows.refl]

theorem State.setCar_only (n : Nat) (r : CarSlot) : Only [.cars] s (s.setCar n r) := by
  intro q hq
  cases q
  case cars => exact nomatch hq
  all_goals simp [Part.same, Log.Grows.refl]

theorem State.setChannel_only (c : Nat) (r : Channel) : Only [.channels] s (s.setChannel c r) := by
  intro q hq
  cases q
  case channels => exact nomatch hq
  all_goals simp [Part.same, Log.Grows.refl]

theorem State.setParam_only (w : Nat) (v : Word) : Only [.params] s (s.setParam w v) := by
  intro q hq
  cases q
  case params => exact nomatch hq
  all_goals simp [Part.same, Log.Grows.refl]

theorem State.setCursor_only (x : Option Nat) : Only [.cursor] s (s.setCursor x) := by
  intro q hq
  cases q
  case cursor => exact nomatch hq
  all_goals simp [Part.same, Log.Grows.refl]

theorem State.setClock_only (k : Clock) : Only [.clock] s (s.setClock k) := by
  intro q hq
  cases q
  case clock => exact nomatch hq
  all_goals simp [Part.same, Log.Grows.refl]

theorem State.setRoster_only (r : List Presence) : Only [.roster] s (s.setRoster r) := by
  intro q hq
  cases q
  case roster => exact nomatch hq
  all_goals simp [Part.same, Log.Grows.refl]

theorem State.setStrike_only (k : Strike) : Only [.strike] s (s.setStrike k) := by
  intro q hq
  cases q
  case strike => exact nomatch hq
  all_goals simp [Part.same, Log.Grows.refl]

theorem State.setLoader_only (l : Loader) : Only [.loader] s (s.setLoader l) := by
  intro q hq
  cases q
  case loader => exact nomatch hq
  all_goals simp [Part.same, Log.Grows.refl]

theorem State.setControl_only (k : Control) : Only [.control] s (s.setControl k) := by
  intro q hq
  cases q
  case control => exact nomatch hq
  all_goals simp [Part.same, Log.Grows.refl]

theorem State.setPower_only (p : Power) : Only [.power] s (s.setPower p) := by
  intro q hq
  cases q
  case power => exact nomatch hq
  all_goals simp [Part.same, Log.Grows.refl]

theorem State.setLog_only (g : Log) : Only [.log] s (s.setLog g) := by
  intro q hq
  cases q
  case log => exact nomatch hq
  all_goals simp [Part.same]

theorem State.setTimers_only (window sweep : Option Nat) : Only [.timers] s { s with window, sweep } := by
  intro q hq
  cases q
  case timers => exact nomatch hq
  all_goals simp [Part.same, Log.Grows.refl]

theorem State.setPort_only (p : Port) (v : PortState) : Only [.office, .ports] s (s.setPort p v) := by
  intro q hq
  cases q
  case office | ports => exact nomatch hq
  all_goals simp [Part.same, Log.Grows.refl]

/-- The records of LIFT and FIELD are told apart from that of OFFICE, which the engine does not write. -/
theorem State.setPort_lift_only (v : PortState) : Only [.ports] s (s.setPort .lift v) := by
  intro q hq
  cases q
  case ports => exact nomatch hq
  case office => rfl
  all_goals simp [Part.same, Log.Grows.refl]

theorem State.setPort_field_only (v : PortState) : Only [.ports] s (s.setPort .field v) := by
  intro q hq
  cases q
  case ports => exact nomatch hq
  case office => rfl
  all_goals simp [Part.same, Log.Grows.refl]

theorem State.setFills_only (k : Nat) : Only [.ports] s { s with fills := k } := by
  intro q hq
  cases q
  case ports => exact nomatch hq
  all_goals simp [Part.same, Log.Grows.refl]

/-- An append is no change that `Only` tells: the log may always grow. -/
theorem State.append_only (e : Event) : Only [] s (s.append e) := by
  intro q _
  cases q
  case log => exact ⟨[(s.clock.minute, e)], rfl⟩
  all_goals simp [Part.same]

/-! ### Unit arming (chapter 6) -/

theorem State.setArm_only (u : Nat) (x : ArmState) : Only [.units] s (s.setArm u x) := s.setUnit_only _ _

theorem State.raiseAlarm_only (u : Nat) (c : AlarmCause) : Only [.units] s (s.raiseAlarm u c) :=
  (s.setArm_only u _).trans (State.append_only _ _)

theorem State.opening_only (u : Nat) : Only [.units] s (s.opening u) := by
  unfold State.opening
  split
  case h_1 | h_2 | h_3 => exact s.raiseAlarm_only _ _
  case h_4 => exact (s.append_only _).mono
  case h_5 | h_6 => exact .refl

theorem State.contactReport_only (u : Nat) (c : Contact) : Only [.units] s (s.contactReport u c) :=
  .ite .refl (.ite ((s.setUnit_only _ _).trans (State.opening_only _ _)) (s.setUnit_only _ _))

theorem State.entryHandoff_only (slot : Nat) : Only [.units] s (s.entryHandoff slot) :=
  .ite .refl (.foldl (fun s _ => .ite (s.setArm_only _ _) .refl) _ _)

theorem State.exitUnit_only (overlocked : Bool) (u : Nat) : Only [.units] s (s.exitUnit overlocked u) :=
  .ite (.ite (s.raiseAlarm_only _ _) (s.setArm_only _ _)) .refl

theorem State.exitHandoff_only (slot : Nat) : Only [.units] s (s.exitHandoff slot) :=
  (Only.foldl (fun s u => s.exitUnit_only _ u) _ s).trans (Only.foldl (fun s _ => s.setUnit_only _ _) _ _)

theorem State.overlockChange_only (slot : Nat) (old new : TenantState) : Only [.units] s (s.overlockChange slot old new) :=
  .ite (.foldl (fun s _ => .ite (s.setArm_only _ _) .refl) _ _)
    (.ite (.foldl (fun s _ => .ite (s.setArm_only _ _) .refl) _ _) .refl)

theorem State.assignArming_only (u : Nat) : Only [.units] s (s.assignArming u) := .ite .refl (s.setArm_only _ _)

theorem State.releaseArming_only (u : Nat) : Only [.units] s (s.releaseArming u) :=
  have h := s.setUnit_only u { s.unit u with visit := false }
  .ite h (.ite (h.trans (State.raiseAlarm_only _ _ _)) (h.trans (State.setArm_only _ _ _)))

theorem State.endService_only (u : Nat) : Only [.units] s (s.endService u) := by
  unfold State.endService
  split
  case h_1 | h_2 | h_3 => exact .ite (s.raiseAlarm_only _ _) (s.setArm_only _ _)
  case h_4 => exact s.setArm_only _ _

/-! ### Rights tables (chapter 1) -/

theorem State.releaseUnit_only (u : Nat) : Only [.units] s (s.releaseUnit u) :=
  (s.setUnit_only _ _).trans (State.releaseArming_only _ _)

theorem State.freeTenant_only (slot : Nat) : Only [.tenants, .units] s (s.freeTenant slot) :=
  (s.setTenant_only _ _).trans (Only.foldl State.releaseUnit_only _ _)

theorem State.assignUnit_only (slot u : Nat) : Only [.tenants, .units] s (s.assignUnit slot u) :=
  ((s.setTenant_only _ _).trans (State.setUnit_only _ _ _) (rs := [.tenants, .units])).trans (State.assignArming_only _ _)

/-! ### Roster (chapter 3) -/

theorem State.enter_only (slot : Nat) : Only [.roster] s (s.enter slot) :=
  .ite (s.setRoster_only _) (.ite ((s.setRoster_only _).trans (State.append_only _ _)) (s.setRoster_only _))

theorem State.rosterComplete_only (kind : CompletionKind) (slot dest : Nat) :
    Only [.roster] s (s.rosterComplete kind slot dest) := by
  cases kind with
  | entry => exact s.enter_only _
  | exit | zone | alight => exact s.setRoster_only _

theorem State.armingHandoff_only (kind : CompletionKind) (slot : Nat) (wasPresent : Bool) :
    Only [.units] s (s.armingHandoff kind slot wasPresent) := by
  cases kind with
  | entry => exact s.entryHandoff_only _
  | exit => exact .ite (s.exitHandoff_only _) .refl
  | zone | alight => exact .refl

theorem State.complete_only (kind : CompletionKind) (holder : Option Holder) (r : Option Reservation) (dest : Nat)
    (subject : Subject) (done : Event) : Only [.roster, .units] s (s.complete kind holder r dest subject done) := by
  cases holder with
  | none => exact (s.append_only _).mono
  | some h =>
    have hr : Only [.roster] s ((s.rosterComplete kind h.slot dest).append done) :=
      (s.rosterComplete_only _ _ _).trans (State.append_only _ _)
    exact .ite (s.append_only _).mono (hr.trans (State.armingHandoff_only _ _ _ _))

theorem State.appendOverstays_only (ps : List Presence) : Only [] s (s.appendOverstays ps) :=
  Only.foldl (fun s _ => s.append_only _) ps s

theorem State.rosterClose_only (g : Nat) : Only [.roster] s (s.rosterClose g) :=
  .ite ((s.setRoster_only _).trans (State.appendOverstays_only _ _)) (s.setRoster_only _)

theorem State.rosterTick_only : Only [.roster] s s.rosterTick := (s.setRoster_only _).trans (State.appendOverstays_only _ _)

theorem State.removeByHand_only (p : Presence) : Only [.roster, .units] s (s.removeByHand p) :=
  ((s.setRoster_only _).trans (State.append_only _ _) (rs := [.roster])).trans (State.exitHandoff_only _ _)

/-! ### Gate channels and strike drive (chapter 7) -/

theorem State.append_setChannel_only (e : Event) (c : Nat) (x : Channel) : Only [.channels] s ((s.append e).setChannel c x) :=
  (s.append_only _).trans (State.setChannel_only _ _ _)

theorem State.release_only (c tenths : Nat) : Only [.channels] s (s.release c tenths) := by
  unfold State.release
  dsimp only
  split
  case h_5 => exact s.append_setChannel_only _ _ _
  case h_6 => exact .refl
  all_goals exact s.setChannel_only _ _

theorem State.enterUnlocked_only (c : Nat) : Only [.channels] s (s.enterUnlocked c) := by
  unfold State.enterUnlocked
  dsimp only
  split
  case h_1 => exact s.append_setChannel_only _ _ _
  case h_2 => exact s.setChannel_only _ _

theorem State.leaveUnlocked_only (c : Nat) : Only [.channels] s (s.leaveUnlocked c) := s.setChannel_only _ _

theorem State.lockChannel_only (c : Nat) : Only [.channels] s (s.lockChannel c) := s.setChannel_only _ _

theorem State.channelOpened_only (c : Nat) : Only [.channels] s (s.channelOpened c) := by
  unfold State.channelOpened
  dsimp only
  split
  case h_1 => exact s.append_setChannel_only _ _ _
  all_goals exact s.setChannel_only _ _

theorem State.channelClosed_only (c : Nat) : Only [.channels] s (s.channelClosed c) := by
  unfold State.channelClosed
  dsimp only
  split
  case h_2 | h_3 => exact s.append_setChannel_only _ _ _
  all_goals exact s.setChannel_only _ _

theorem State.channelExpired_only (c : Nat) : Only [.channels] s (s.channelExpired c) := by
  unfold State.channelExpired
  dsimp only
  split <;> exact s.setChannel_only _ _

theorem State.heldOpenExpired_only (c : Nat) : Only [.channels] s (s.heldOpenExpired c) :=
  .ite ((s.setChannel_only _ _).trans (State.append_only _ _)) (s.setChannel_only _ _)

theorem State.placeChannel_only (c : Nat) (x : Channel) : Only [.channels] s (s.placeChannel c x) :=
  .ite (s.setChannel_only _ _) (.ite ((s.setChannel_only _ _).trans (State.append_only _ _)) (s.setChannel_only _ _))

theorem State.supplySample_only (v : Nat) : Only [.strike] s (s.supplySample v) := by
  refine .ite (.ite (s.setStrike_only _) ((s.setStrike_only _).trans (State.append_only _ _))) ?_
  have hok : Only [] s (if s.strike.failMark then s.append (.supplyOk v) else s) := .ite (s.append_only _) .refl
  have hset (k : Strike) : Only [.strike] s ((if s.strike.failMark then s.append (.supplyOk v) else s).setStrike k) :=
    hok.trans (State.setStrike_only _ _)
  exact .ite ((hset _).trans (State.append_only _ _)) (hset _)

theorem State.setNow_only (k : Nat) : Only [.now] s { s with now := k } := by
  intro q hq
  cases q
  case now => exact nomatch hq
  all_goals simp [Part.same, Log.Grows.refl]

theorem State.periodStart_only : Only [.strike, .channels, .now] s s.periodStart :=
  have h := (s.setStrike_only _).trans (rs := [.strike, .channels])
    (Only.forEach (ps := [.channels]) (fun c s => s.setChannel_only c (s.channel c).periodStart) Config.channelCount _)
  h.trans (State.setNow_only _ _)

/-! ### Passages (4.6 to 4.8) -/

theorem State.detach_only (n : Nat) (channel : Option Nat) : Only [.channels] s (s.detach n channel) := by
  cases channel with
  | none => exact .refl
  | some c => exact .ite (s.setChannel_only _ _) .refl

theorem State.endPassage_only (n : Nat) (p : Passage) (next : SlotState) :
    Only [.stations, .channels] s (s.endPassage n p next) :=
  (s.setStation_only _ _).trans (State.detach_only _ _ _)

theorem State.completePassage_only (n : Nat) (p : Passage) :
    Only [.roster, .units, .stations, .channels] s (s.completePassage n p) :=
  (s.complete_only _ _ _ _ _ _).trans (State.endPassage_only _ _ _ _)

theorem State.abandonPassage_only (n : Nat) (p : Passage) (cause : AbandonCause) :
    Only [.stations, .channels] s (s.abandonPassage n p cause) :=
  (s.append_only _).trans (State.endPassage_only _ _ _ _)

theorem State.setPassage_only (n : Nat) (p : Passage) : Only [.stations] s (s.setPassage n p) := s.setStation_only _ _

variable {s} in
theorem Only.withCarried {ps : List Part} (c : Nat) {f : Nat → Passage → State} (hf : ∀ n p, Only ps s (f n p)) :
    Only ps s (s.withCarried c f) := by
  unfold State.withCarried
  split
  · exact .refl
  · split
    · exact hf _ _
    · exact .refl

theorem State.handWindow_only (c : Nat) : Only [.stations] s (s.handWindow c) := .withCarried c fun _ _ => s.setPassage_only _ _

theorem State.gateOpened_only (c : Nat) : Only [.channels, .stations] s (s.gateOpened c) :=
  (s.channelOpened_only c).trans (Only.withCarried c fun _ _ => State.setPassage_only _ _ _)

theorem State.gateClosed_only (c : Nat) : Only [.channels, .stations, .roster, .units] s (s.gateClosed c) :=
  (s.channelClosed_only c).trans (Only.withCarried c fun _ _ => .ite (State.completePassage_only _ _ _) .refl)

theorem State.releaseExpired_only (c : Nat) : Only [.channels, .stations] s (s.releaseExpired c) := by
  have h : Only [.channels, .stations] s ((s.channelExpired c).handExpired c) :=
    (s.channelExpired_only c).trans (Only.withCarried c fun _ _ => .ite (State.abandonPassage_only _ _ _ _) .refl)
  unfold State.releaseExpired
  split
  case h_1 | h_2 | h_3 => exact h
  all_goals exact (s.channelExpired_only c).mono

theorem State.syncChannel_only (c : Nat) : Only [.channels, .stations] s (s.syncChannel c) :=
  .ite (.ite .refl ((s.enterUnlocked_only c).trans (State.handWindow_only _ c))) (.ite (s.leaveUnlocked_only c).mono .refl)

theorem State.channelsFollowPhase_only : Only [.channels, .stations] s s.channelsFollowPhase :=
  .ite .refl (.forEach (fun c s => .ite (s.syncChannel_only c) .refl) _ _)

theorem State.modeWritten_only (c : Nat) (old : Byte) : Only [.channels, .stations] s (s.modeWritten c old) :=
  .ite .refl (.ite (s.syncChannel_only c) (.ite ((s.lockChannel_only c).trans (State.handWindow_only _ c)) .refl))

/-! ### Site clock (chapter 2) -/

theorem State.setPhase_only (p : Phase) : Only [.clock] s (s.setPhase p) := s.setClock_only _

theorem State.closeEvent_only : Only [.clock, .roster, .channels, .stations] s s.closeEvent :=
  have h := ((s.setPhase_only _).trans (State.append_only _ _) (rs := [.clock])).trans (rs := [.clock, .roster])
    (State.rosterClose_only _ s.grace)
  h.trans (State.channelsFollowPhase_only _)

theorem State.openEvent_only : Only [.clock, .roster, .channels, .stations] s s.openEvent :=
  have h := ((s.setPhase_only _).trans (State.append_only _ _) (rs := [.clock])).trans (rs := [.clock, .roster])
    (State.setRoster_only _ _)
  h.trans (State.channelsFollowPhase_only _)

theorem State.evaluatePhase_only (tick : Bool) : Only [.clock, .roster, .channels, .stations] s (s.evaluatePhase tick) := by
  unfold State.evaluatePhase
  split
  case h_1 | h_6 => exact .refl
  case h_2 => exact s.closeEvent_only
  case h_3 | h_5 => exact s.openEvent_only
  case h_4 => exact .ite ((s.setPhase_only _).trans (State.rosterTick_only _)) .refl

theorem State.minuteTick_only : Only [.clock, .roster, .channels, .stations] s s.minuteTick :=
  .ite (.ite ((s.setClock_only _).trans (State.evaluatePhase_only _ _)) (s.setClock_only _).mono) .refl

theorem State.secondTick_only : Only [.clock, .roster, .channels, .stations] s s.secondTick :=
  .ite (.ite (s.setClock_only _).mono s.minuteTick_only) .refl

theorem State.setTime_only (t : Nat) : Only [.clock, .roster, .channels, .stations] s (s.setTime t) :=
  ((s.setClock_only _).trans (State.append_only _ _) (rs := [.clock])).trans (State.evaluatePhase_only _ _)

/-! ### The decision engine (chapters 4 and 5) -/

theorem State.writeVerdict_only (n : Nat) (o : StationOutcome) (t : Option Nat) :
    Only [.stations, .ports] s (s.writeVerdict n o t) :=
  (s.setStation_only _ _).trans (State.setPort_field_only _ _)

theorem State.setSlot_only (n : Nat) (x : SlotState) : Only [.stations] s (s.setSlot n x) := s.setStation_only _ _

theorem State.denyStation_only (n : Nat) (t : Option Nat) (reason : DenyReason) :
    Only [.stations, .ports] s (s.denyStation n t reason) :=
  ((s.writeVerdict_only _ _ _).trans (State.append_only _ _) (rs := [.stations, .ports])).trans (State.setSlot_only _ _ _)

theorem State.attach_only (c n : Nat) : Only [.stations, .channels] s (s.attach c n) :=
  (Only.withCarried c fun _ _ => s.setPassage_only _ _).trans (State.setChannel_only _ _ _)

theorem State.grantGate_only (n : Nat) (channel : Option Nat) (release : Nat) :
    Only [.stations, .channels] s (s.grantGate n channel release) := by
  cases channel with
  | none => exact .refl
  | some c => exact .ite ((s.attach_only c n).trans (State.release_only _ _ _)) (s.attach_only c n)

theorem State.grantStation_only (n : Nat) (r : Request) (kind : PassageKind) (t : Option Nat) (res : Option Reservation)
    (passback : Bool) : Only [.stations, .channels, .ports] s (s.grantStation n r kind t res passback) :=
  have h : Only [.stations, .channels, .ports] s
      ((s.grantGate n r.config.channel (s.releaseTime t)).writeVerdict n (.grant (s.releaseTime t)) t) :=
    (s.grantGate_only _ _ _).trans (State.writeVerdict_only _ _ _ _)
  have h' : Only [.stations, .channels, .ports] s
      (if passback then ((s.grantGate n r.config.channel (s.releaseTime t)).writeVerdict n (.grant (s.releaseTime t)) t).append
          (.passback kind n t)
        else (s.grantGate n r.config.channel (s.releaseTime t)).writeVerdict n (.grant (s.releaseTime t)) t) :=
    .ite (h.trans (State.append_only _ _)) h
  h'.trans (State.setSlot_only _ _ _)

theorem State.decideEntry_only (n : Nat) (r : Request) : Only [.stations, .channels, .ports] s (s.decideEntry n r) := by
  unfold State.decideEntry
  dsimp only
  split
  exacts [(s.denyStation_only _ _ _).mono, s.grantStation_only _ _ _ _ _ _]

theorem State.decideExit_only (n : Nat) (r : Request) : Only [.stations, .channels, .ports] s (s.decideExit n r) := by
  unfold State.decideExit
  dsimp only
  split
  exacts [(s.denyStation_only _ _ _).mono, s.grantStation_only _ _ _ _ _ _]

theorem State.decideZone_only (n : Nat) (r : Request) : Only [.stations, .channels, .ports] s (s.decideZone n r) := by
  unfold State.decideZone
  dsimp only
  split
  exacts [(s.denyStation_only _ _ _).mono, s.grantStation_only _ _ _ _ _ _]

theorem State.takeStation_only {ps : List Part} (type : StationType) {judge : State → Nat → Request → State}
    (hj : ∀ n r, Only ps s (judge s n r)) : Only ps s (s.takeStation type judge) := by
  unfold State.takeStation
  split
  exacts [.ite (hj _ _) .refl, .refl]

theorem State.takeOffline_only (n : Nat) : Only [.stations, .channels] s (s.takeOffline n) := by
  unfold State.takeOffline
  split
  exacts [s.abandonPassage_only _ _ _, (s.setSlot_only _ _).mono]

theorem State.windowDeadline_only (n : Nat) : Only [.stations, .channels] s (s.windowDeadline n) := by
  unfold State.windowDeadline
  split
  exacts [.ite .refl (s.abandonPassage_only _ _ _), .refl]

theorem State.fireStation_only (n : Nat) : Only [.stations, .channels] s (State.fireStation n s) := by
  unfold State.fireStation
  split
  exacts [s.abandonPassage_only _ _ _, .refl]

theorem State.writeCarVerdict_only (n : Nat) (v : CarVerdict) : Only [.cars, .ports] s (s.writeCarVerdict n v) :=
  (s.setCar_only _ _).trans (State.setPort_lift_only _ _)

theorem State.setCarState_only (n : Nat) (x : CarState) : Only [.cars] s (s.setCarState n x) := s.setCar_only _ _

theorem State.denyCar_only (n : Nat) (r : CarRequest) (t : Option Nat) (reason : DenyReason) :
    Only [.cars, .ports] s (s.denyCar n r t reason) :=
  ((s.writeCarVerdict_only _ _).trans (State.append_only _ _) (rs := [.cars, .ports])).trans (State.setCarState_only _ _ _)

theorem State.grantCar_only (n : Nat) (r : CarRequest) (t : Option Nat) (res : Option Reservation) :
    Only [.cars, .ports] s (s.grantCar n r t res) :=
  (s.writeCarVerdict_only _ _).trans (State.setCarState_only _ _ _)

theorem State.decideCar_only (n : Nat) (r : CarRequest) : Only [.cars, .ports] s (s.decideCar n r) := by
  unfold State.decideCar
  dsimp only
  split
  · exact s.denyCar_only _ _ _ _
  · exact s.grantCar_only _ _ _ _
  · exact s.grantCar_only _ _ _ _

theorem State.takeCar_only : Only [.cars, .ports] s s.takeCar := by
  unfold State.takeCar
  split
  exacts [s.decideCar_only _ _, .refl]

theorem State.completeTrip_only (n : Nat) (t : Trip) : Only [.roster, .units, .cars] s (s.completeTrip n t) :=
  (s.complete_only _ _ _ _ _ _).trans (State.setCarState_only _ _ _)

theorem State.abandonTrip_only (n : Nat) (t : Trip) (cause : AbandonCause) : Only [.cars] s (s.abandonTrip n t cause) :=
  (s.append_only _).trans (State.setCarState_only _ _ _)

theorem State.tripDeadline_only (n : Nat) : Only [.cars] s (s.tripDeadline n) := by
  unfold State.tripDeadline
  split
  exacts [s.abandonTrip_only _ _ _, .refl]

theorem State.fireCar_only (n : Nat) : Only [.cars] s (State.fireCar n s) := by
  unfold State.fireCar
  split
  exacts [s.abandonTrip_only _ _ _, .refl]

theorem State.fireEngine_only : Only [.cars, .stations, .channels] s s.fireEngine :=
  (Only.forEach (fun n s => s.fireCar_only n) _ s).trans (Only.forEach (fun n s => s.fireStation_only n) _ _)

/-! ### Mode control, parameters, fire latch (chapter 9) -/

theorem State.setControl_append_only (k : Control) (e : Event) : Only [.control] s ((s.setControl k).append e) :=
  (s.setControl_only _).trans (State.append_only _ _)

theorem State.enterFallback_only (cause : ModeCause) : Only [.control] s (s.enterFallback cause) :=
  .ite (s.setControl_append_only _ _) .refl

theorem State.storeWord_only (w : Nat) (v : Word) : Only [.params, .channels, .stations] s (s.storeWord w v) :=
  .ite ((s.setParam_only _ _).trans (Only.foldl (fun s _ => s.modeWritten_only _ _) _ _)) (s.setParam_only _ _).mono

theorem State.paramFault_only (cause : ModeCause) : Only [.control] s (s.paramFault cause) :=
  (s.append_only _).trans (State.enterFallback_only _ _)

theorem State.warnChannels_only : Only [] s (s.forEach Config.channelCount State.warnChannel) :=
  .forEach (fun _ s => .ite (s.append_only _) .refl) _ _

theorem State.closeWindow_only (cause : ModeCause) : Only [.timers, .control] s (s.closeWindow cause) := by
  have h1 : Only [.timers] s { s with window := none } := s.setTimers_only none s.sweep
  have h2 : Only [.timers, .control] s (if ({ s with window := none } : State).blockGood then ({ s with window := none } : State)
      else ({ s with window := none } : State).paramFault cause) := .ite h1.mono (h1.trans (State.paramFault_only _ _))
  exact (h2.trans (State.warnChannels_only _) (rs := [.timers, .control])).trans (State.setTimers_only _ _ _)

theorem State.windowExpired_only : Only [.timers, .control] s s.windowExpired := .ite .refl (s.closeWindow_only _)

theorem State.sweepBlock_only : Only [.timers, .control] s s.sweepBlock :=
  have h1 : Only [.timers] s { s with sweep := some (s.now + Config.sweepInterval) } := s.setTimers_only s.window _
  .ite .refl (.ite h1.mono (h1.trans (State.paramFault_only _ _)))

theorem State.fireChannels_only : Only [.channels] s (s.forEach Config.channelCount State.fireChannel) :=
  .forEach (fun c s => .ite (s.enterUnlocked_only c) .refl) _ _

theorem State.clearChannels_only : Only [.channels] s (s.forEach Config.channelCount State.clearChannel) :=
  .forEach (fun c s => .ite (s.leaveUnlocked_only c) .refl) _ _

theorem State.fireActive_only : Only [.control, .cars, .stations, .channels] s s.fireActive :=
  have h1 := s.setControl_append_only { s.control with fireLive := true, fireLatch := true } .fireOn
  .ite .refl (.ite h1.mono
    ((h1.trans (State.fireEngine_only _) (rs := [.control, .cars, .stations, .channels])).trans (State.fireChannels_only _)))

theorem State.fireInactive_only : Only [.control] s s.fireInactive := .ite (s.setControl_append_only _ _) .refl

theorem State.egressActive_only (c : Nat) : Only [.channels] s (s.egressActive c) :=
  have h1 := s.setChannel_only c { s.channel c with egress := true }
  .ite .refl (.ite h1 (h1.trans (State.release_only _ _ _)))

/-! ### Bulk loading (chapter 8) -/

theorem State.commitTenant_only (target : Nat) (d : TenantDetails) (units : List Nat) :
    Only [.tenants, .units] s (s.commitTenant target d units) :=
  (s.setTenant_only _ _).trans
    (Only.foldl (ps := [.units]) (fun s _ => (s.setUnit_only _ _).trans (State.assignArming_only _ _)) _ _)

theorem State.examine_only (svckey : Bool) (target : Nat) (r : LoadRecord) :
    Only [.tenants, .units] s (s.examine svckey target r).2 := by
  unfold State.examine
  split
  · split
    · exact .refl
    · exact s.commitTenant_only _ _ _
  · split
    · exact .refl
    · exact (s.setUnit_only _ _).mono

theorem State.takeRecord_only (svckey : Bool) : Only [.tenants, .units, .loader] s (s.takeRecord svckey) := by
  unfold State.takeRecord
  split
  case h_1 r rest _ =>
    have h (l : Loader) : Only [.tenants, .units, .loader] s ((s.examine svckey s.loader.nextTarget r).2.setLoader l) :=
      (s.examine_only _ _ _).trans (State.setLoader_only _ _)
    exact .ite ((h _).trans (State.append_only _ _)) (h _)
  case h_2 => exact .refl

/-! ### Restarts and power (9.5) -/

/-- The parts that every kind of reset writes. -/
def resetParts : List Part := [.office, .ports, .cursor, .stations, .cars, .strike, .loader, .timers, .now, .control, .channels]

/-- The parts that a COLD reset writes: all but the queue. -/
def coldParts : List Part :=
  [.office, .ports, .cursor, .tenants, .units, .profiles, .clock, .roster, .stations, .cars, .channels, .strike, .loader, .params,
    .timers, .control, .power, .now, .log]

theorem State.dropWork_only : Only resetParts s s.dropWork := by
  intro q hq
  cases q
  case log => exact Log.Grows.refl _
  case tenants | units | profiles | clock | roster | params | power | queue => rfl
  all_goals exact nomatch hq

theorem State.takeFireLevel_only (level : Bool) : Only [.control] s (s.takeFireLevel level) :=
  .ite (s.setControl_append_only _ _) (s.setControl_only _)

theorem State.placeChannels_only (l : Lines) : Only [.channels] s (s.placeChannels l) :=
  .forEach (fun c s => s.placeChannel_only c _) _ _

/-- What follows a reset's clearing: the restart rule of mode control (R162). -/
theorem State.restart_only (cause : ResetCause) (l : Lines) (checkFailed : Bool) :
    Only [.control, .channels] s (s.restart cause l checkFailed) :=
  have h1 : Only [.control] s ((s.setControl { s.control with resetCause := cause }).noteCheck checkFailed) :=
    (s.setControl_only _).trans (State.setControl_only _ _)
  have h2 : Only [.control] s ((((s.setControl { s.control with resetCause := cause }).noteCheck checkFailed).setControl
      { ((s.setControl { s.control with resetCause := cause }).noteCheck checkFailed).control with
        mode := ((s.setControl { s.control with resetCause := cause }).noteCheck checkFailed).restartMode }).append _) :=
    h1.trans (State.setControl_append_only _ _ _)
  (h2.trans (State.takeFireLevel_only _ _) (rs := [.control])).trans (State.placeChannels_only _ _)

theorem State.warmReset_only (cause : ResetCause) (l : Lines) : Only resetParts s (s.warmReset cause l) :=
  s.dropWork_only.trans (State.restart_only _ _ _ _)

theorem State.pinReset_only (l : Lines) : Only (.power :: resetParts) s (s.pinReset l) :=
  have h := s.setPower_only { s.power with rst := false }
  .ite (h.trans (State.warmReset_only _ _ _)) h.mono

theorem State.retentionReset_only (l : Lines) (checkPasses : Bool) :
    Only (.power :: resetParts) s (s.retentionReset l checkPasses) :=
  (s.dropWork_only.trans (State.setPower_only _ _) (rs := .power :: resetParts)).trans (State.restart_only _ _ _ _)

theorem State.coldReset_only (l : Lines) (checkPasses : Bool) : Only coldParts s (s.coldReset l checkPasses) := by
  have h : Only coldParts s (s.dropWork.dropRetained.setPower { s.power with main := true, retention := true }) := by
    intro q hq
    cases q
    case queue => rfl
    all_goals exact nomatch hq
  exact h.trans (State.restart_only _ _ _ _)

theorem State.powerReturns_only (l : Lines) (checkPasses : Bool) : Only coldParts s (s.powerReturns l checkPasses) :=
  .ite (s.retentionReset_only _ _).mono (s.coldReset_only _ _)

theorem State.powerLost_only : Only [.power] s s.powerLost := .ite (s.setPower_only _) .refl

theorem State.retentionLost_only : Only [.power] s s.retentionLost := .ite .refl (s.setPower_only _)

end

end Sys2Proof.Machine
end

section
/-! Every event by its parts: the table of what each command and each event can write, the one lemma that says what an event is
made of, and what follows for a law of the state. -/

namespace Sys2Proof.Machine

set_option Elab.async false -- one thread for the file, as in the tests: a thread for each theorem reaches the memory limit

/-! ### The tables of parts -/

/-- The parts that a command writes: its effect, or for a read the end of its frame. -/
def commandParts : Command → List Part
  | .setClock => [.clock, .roster, .channels, .stations]
  | .profileWrite => [.profiles]
  | .selectTenant | .findTenant => [.cursor]
  | .tenantWrite => [.tenants]
  | .tenantFree | .tenantState | .assignUnit | .releaseUnit => [.tenants, .units]
  | .unitFloor | .unitService | .unitAck | .unitContact => [.units]
  | .presenceRemove => [.roster, .units]
  | .overstayAck => [.roster]
  | .loadBegin | .loadData | .loadAbort => [.loader]
  | .paramOpen => [.timers]
  | .paramWrite => [.params, .channels, .stations]
  | .paramClose => [.timers, .control]
  | .gatePulse => [.channels]
  | .fireClear => [.control, .channels]
  | .fallbackEnter | .fallbackRelease => [.control]
  | .deviceReset => resetParts
  | .carQuery | .carCancel | .carFetch => [.cars]
  | .carAlight => [.roster, .units, .cars]
  | .present | .stationOnline | .verdictFetch => [.stations]
  | .passed => [.roster, .units, .stations, .channels]
  | .noPassage | .stationOffline => [.stations, .channels]
  | .logRead => [.log]
  | .null | .readState | .profileRead | .tenantRead | .unitRead | .rosterRead | .paramRead | .channelRead | .repeatEnd => []

/-- The parts that an event writes that is no frame. -/
def eventParts : Instr → List Part
  | .gateContactOpen _ | .releaseTimerExpiry _ => [.channels, .stations]
  | .gateContactClose _ => [.channels, .stations, .roster, .units]
  | .egressRequest _ _ | .heldOpenTimerExpiry _ | .pickTimerExpiry _ => [.channels]
  | .fireInputActive => [.control, .cars, .stations, .channels]
  | .fireInputInactive => [.control]
  | .rstAssert | .mainPowerLoss | .vbatBelowHoldingLevel => [.power]
  | .pinReset _ => .power :: resetParts
  | .coldReset _ _ | .retentionReset _ _ => coldParts
  | .secondTick | .minuteTick => [.clock, .roster, .channels, .stations]
  | .entryDecision | .exitDecision | .zoneDecision => [.stations, .channels, .ports]
  | .carDecision => [.cars, .ports]
  | .loaderExamine _ => [.tenants, .units, .loader]
  | .passageWindowDeadline _ => [.stations, .channels]
  | .tripDeadline _ => [.cars]
  | .editWindowExpiry | .integritySweep => [.timers, .control]
  | .supplySample _ => [.strike]
  | .pwmPeriodStart => [.strike, .channels, .now]
  | _ => []

/-! ### Commands -/

section
variable {s : State} {args : List Byte}

theorem endByField_only {ps : List Part} {act : Nat → Passage → State} (h : ∀ n p, Only ps s (act n p)) :
    Only ps s (endByField args s act).2 := by
  unfold endByField
  dsimp only
  split
  · exact .refl
  · split
    exacts [.refl, h _ _]

theorem endByLift_only {ps : List Part} {act : Nat → Trip → State} (h : ∀ n t, Only ps s (act n t)) :
    Only ps s (endByLift args s act).2 := by
  unfold endByLift
  dsimp only
  split
  · exact .refl
  · split
    exacts [h _ _, .refl]

/-- The blocks' effects write what the table says. -/
theorem runCommand_only (c : Command) (l : Lines) (args : List Byte) (s : State) : Only (commandParts c) s (runCommand c l args s).2 := by
  cases c
  case selectTenant => exact .answer (s.setCursor_only _) _
  case findTenant =>
    show Only [.cursor] s (runFindTenant args s).2
    unfold runFindTenant
    split
    · exact .refl
    · split
      exacts [.refl, s.setCursor_only _]
  case tenantWrite =>
    show Only [.tenants] s (runTenantWrite l.svckey args s).2
    unfold runTenantWrite
    split
    exacts [.refl, .answer (s.setTenant_only _ _) _]
  case tenantState =>
    show Only [.tenants, .units] s (runTenantState l.svckey args s).2
    unfold runTenantState
    split
    exacts [.refl, .answer ((s.setTenant_only _ _).trans (State.overlockChange_only _ _ _ _)) _]
  case profileWrite =>
    show Only [.profiles] s (runProfileWrite args s).2
    unfold runProfileWrite
    split
    exacts [.refl, .answer (s.setProfile_only _ _) _]
  case unitContact =>
    show Only [.units] s (runUnitContact args s).2
    unfold runUnitContact
    dsimp only
    split
    exacts [.refl, .answer (s.contactReport_only _ _) _]
  case unitAck =>
    show Only [.units] s (runUnitAck args s).2
    unfold runUnitAck
    dsimp only
    split
    · exact .refl
    · split
      · split
        exacts [.refl, (s.setArm_only _ _).trans (State.append_only _ _)]
      · exact .refl
  case unitService =>
    show Only [.units] s (runUnitService args s).2
    unfold runUnitService
    dsimp only
    split
    exacts [.refl, .answer (.ite (s.setArm_only _ _) (s.endService_only _)) _]
  case presenceRemove =>
    show Only [.roster, .units] s (runPresenceRemove args s).2
    unfold runPresenceRemove
    split
    · exact .refl
    · split
      exacts [.refl, s.removeByHand_only _]
  case overstayAck =>
    show Only [.roster] s (runOverstayAck args s).2
    unfold runOverstayAck
    dsimp only
    split
    · exact .refl
    · split
      exacts [.refl, .answer (s.setRoster_only _) _]
  case present =>
    show Only [.stations] s (runPresent args s).2
    unfold runPresent
    dsimp only
    split
    exacts [.refl, .answer (s.setSlot_only _ _) _]
  case carQuery =>
    show Only [.cars] s (runCarQuery args s).2
    unfold runCarQuery
    dsimp only
    split
    exacts [.refl, .answer (s.setCarState_only _ _) _]
  case loadBegin =>
    show Only [.loader] s (runLoadBegin args s).2
    unfold runLoadBegin
    dsimp only
    split
    exacts [.refl, .answer (s.setLoader_only _) _]
  case loadData =>
    show Only [.loader] s (runLoadData args s).2
    unfold runLoadData
    dsimp only
    split
    · exact .refl
    · split
      exacts [.refl, .answer (s.setLoader_only _) _]
  case paramClose =>
    show Only [.timers, .control] s (runParamClose s).2
    unfold runParamClose
    split
    exacts [.refl, s.closeWindow_only _]
  case passed => exact endByField_only fun _ _ => s.completePassage_only _ _
  case noPassage => exact endByField_only fun _ _ => s.abandonPassage_only _ _ _
  case carAlight => exact endByLift_only fun _ _ => s.completeTrip_only _ _
  case carCancel => exact endByLift_only fun _ _ => s.abandonTrip_only _ _ _
  case setClock => exact .answer (s.setTime_only _) _
  case tenantFree => exact .answer (s.freeTenant_only _) _
  case assignUnit => exact .answer (s.assignUnit_only _ _) _
  case releaseUnit => exact .answer ((s.setTenant_only _ _).trans (State.releaseUnit_only _ _)) _
  case unitFloor => exact .answer (s.setUnit_only _ _) _
  case loadAbort => exact .answer ((s.setLoader_only _).trans (State.append_only _ _)) _
  case paramOpen => exact .answer (s.setTimers_only _ _) _
  case paramWrite => exact .answer (s.storeWord_only _ _) _
  case gatePulse => exact .answer (.ite .refl (s.release_only _ _)) _
  case fireClear => exact .answer ((s.setControl_append_only _ _).trans (State.clearChannels_only _)) _
  case fallbackEnter => exact s.enterFallback_only _
  case fallbackRelease => exact .answer (s.setControl_append_only _ _) _
  case stationOnline => exact .answer (s.setSlot_only _ _) _
  case stationOffline => exact .answer (s.takeOffline_only _) _
  case deviceReset => exact s.warmReset_only _ _
  all_goals exact .refl

/-- What a read's frame does at its end (R66, R96, R167). -/
theorem endRead_only (c : Command) (bytes : Nat) (m : Sample) (s : State) : Only (commandParts c) s (endRead c bytes m s) := by
  unfold endRead
  split
  · exact s.setLog_only _
  · split
    exacts [s.setStation_only _ _, .refl]
  · split
    exacts [s.setCar_only _ _, .refl]
  · exact .refl

end

/-! ### Events that are no frame -/

/-- What an event that is no frame makes of a state that takes it: `exec_event` says so. -/
def runEvent (i : Instr) (s : State) : State :=
  match i with
  | .gateContactOpen c => if (s.channel c).gateOpen then s else s.gateOpened c
  | .gateContactClose c => if (s.channel c).gateOpen then s.gateClosed c else s
  | .egressRequest c active => if active then s.egressActive c else s.egressInactive c
  | .fireInputActive => s.fireActive
  | .fireInputInactive => s.fireInactive
  | .rstAssert => s.setPower { s.power with rst := true }
  | .pinReset l => s.pinReset l
  | .coldReset l checkPasses => s.coldReset l checkPasses
  | .retentionReset l checkPasses => s.powerReturns l checkPasses
  | .mainPowerLoss => s.powerLost
  | .secondTick => s.secondTick
  | .minuteTick => s.minuteTick
  | .entryDecision => s.takeStation .entry State.decideEntry
  | .exitDecision => s.takeStation .exit State.decideExit
  | .zoneDecision => s.takeStation .zone State.decideZone
  | .carDecision => s.takeCar
  | .loaderExamine svckey => s.takeRecord svckey
  | .releaseTimerExpiry c => if (s.channel c).releaseTimer.isSome then s.releaseExpired c else s
  | .heldOpenTimerExpiry c => if (s.channel c).heldOpenTimer.isSome then s.heldOpenExpired c else s
  | .pickTimerExpiry c => s.setChannel c { s.channel c with pickTimer := none }
  | .passageWindowDeadline n => s.windowDeadline n
  | .tripDeadline n => s.tripDeadline n
  | .editWindowExpiry => s.windowExpired
  | .integritySweep => s.sweepBlock
  | .supplySample v => s.supplySample v
  | .pwmPeriodStart => s.periodStart
  | .vbatBelowHoldingLevel => s.retentionLost
  | _ => s

/-- The event is no frame. -/
def isEvent : Instr → Bool
  | .gateContactOpen _ | .gateContactClose _ | .egressRequest _ _ | .fireInputActive | .fireInputInactive | .rstAssert
  | .pinReset _ | .coldReset _ _ | .retentionReset _ _ | .mainPowerLoss | .secondTick | .minuteTick | .entryDecision
  | .exitDecision | .zoneDecision | .carDecision | .loaderExamine _ | .releaseTimerExpiry _ | .heldOpenTimerExpiry _
  | .pickTimerExpiry _ | .passageWindowDeadline _ | .tripDeadline _ | .editWindowExpiry | .integritySweep | .supplySample _
  | .pwmPeriodStart | .vbatBelowHoldingLevel => true
  | _ => false

/-- An event that is no frame is taken by a running part, and the ticks, power events and resets by one that is held (R160). -/
theorem exec_event (i : Instr) (s : State) (h : isEvent i = true) :
    exec i s = .next (if (s.running || reachesHeld i) = true then runEvent i s else s) := by
  cases i
  case rstAssert | pinReset | coldReset | retentionReset | mainPowerLoss | secondTick | minuteTick | vbatBelowHoldingLevel =>
    exact congrArg Host.Outcome.next (if_pos (Bool.or_true _)).symm
  case null | readState | setClock | profileWrite | profileRead | selectTenant | findTenant | tenantWrite | tenantRead
    | tenantFree | tenantState | assignUnit | releaseUnit | unitRead | unitFloor | unitService | unitAck | rosterRead
    | presenceRemove | overstayAck | loadBegin | loadData | loadAbort | logRead | paramOpen | paramWrite | paramRead
    | paramClose | gatePulse | channelRead | fireClear | fallbackEnter | fallbackRelease | deviceReset | carQuery
    | carFetch | carAlight | carCancel | present | verdictFetch | passed | noPassage | unitContact | stationOnline
    | stationOffline | repeatEnd | repeatModeLeave | framing | unknownCommand => cases h
  all_goals
    rw [show reachesHeld _ = false from rfl, Bool.or_false]
    rfl

theorem runEvent_only (i : Instr) (s : State) : Only (eventParts i) s (runEvent i s) := by
  cases i
  case gateContactOpen => exact .ite .refl (s.gateOpened_only _)
  case gateContactClose => exact .ite (s.gateClosed_only _) .refl
  case egressRequest => exact .ite (s.egressActive_only _) (s.setChannel_only _ _)
  case fireInputActive => exact s.fireActive_only
  case fireInputInactive => exact s.fireInactive_only
  case rstAssert => exact s.setPower_only _
  case pinReset => exact s.pinReset_only _
  case coldReset => exact s.coldReset_only _ _
  case retentionReset => exact s.powerReturns_only _ _
  case mainPowerLoss => exact s.powerLost_only
  case secondTick => exact s.secondTick_only
  case minuteTick => exact s.minuteTick_only
  case entryDecision => exact s.takeStation_only _ s.decideEntry_only
  case exitDecision => exact s.takeStation_only _ s.decideExit_only
  case zoneDecision => exact s.takeStation_only _ s.decideZone_only
  case carDecision => exact s.takeCar_only
  case loaderExamine => exact s.takeRecord_only _
  case releaseTimerExpiry => exact .ite (s.releaseExpired_only _) .refl
  case heldOpenTimerExpiry => exact .ite (s.heldOpenExpired_only _) .refl
  case pickTimerExpiry => exact s.setChannel_only _ _
  case passageWindowDeadline => exact s.windowDeadline_only _
  case tripDeadline => exact s.tripDeadline_only _
  case editWindowExpiry => exact s.windowExpired_only
  case integritySweep => exact s.sweepBlock_only
  case supplySample => exact s.supplySample_only _
  case pwmPeriodStart => exact s.periodStart_only
  case vbatBelowHoldingLevel => exact s.retentionLost_only
  all_goals exact .refl

/-! ### Frames -/

/-- What the blocks make of an event, apart from the port engines. -/
inductive Took (i : Instr) (s : State) : State → Prop
  | idle : Took i s s
  | command (c : Command) (l : Lines) (args : List Byte) (hl : linesOf i = some l) (hi : isEvent i = false)
      (hrun : s.running = true) (hr : isRead c = false) : Took i s (runCommand c l args s).2
  | read (c : Command) (bytes : Nat) (m : Sample) (hr : isRead c = true) (hi : isEvent i = false) :
      Took i s (endRead c bytes m s)
  | event (hi : isEvent i = true) (htaken : (s.running || reachesHeld i) = true) : Took i s (runEvent i s)

/-- `t` is `s` but for the port engines, and OFFICE has not entered repeat mode. -/
def EngineOnly (s t : State) : Prop := Only [.office, .ports] s t ∧ (t.office.repeating = true → s.office.repeating = true)

section
variable {s t u : State} {p : Port} {l : Lines} {i : Instr}

theorem EngineOnly.refl : EngineOnly s s := ⟨.refl, id⟩

theorem EngineOnly.trans (h : EngineOnly s t) (k : EngineOnly t u) : EngineOnly s u := ⟨h.1.trans k.1, h.2 ∘ k.2⟩

/-- A write of a port's record that leaves OFFICE outside repeat mode. -/
theorem EngineOnly.setPort {v : PortState} (h : p = .office → v.repeating = true → s.office.repeating = true) :
    EngineOnly s (s.setPort p v) := by
  refine ⟨s.setPort_only p v, ?_⟩
  cases p
  case office => exact h rfl
  all_goals exact id

theorem State.leaveRepeat_engine (s : State) (p : Port) : EngineOnly s (s.leaveRepeat p) := .setPort fun _ => nofun

theorem State.holdFrame_engine (s : State) (p : Port) (fr : OpenFrame) : EngineOnly s (s.holdFrame p fr) :=
  .setPort fun hp hr => by subst hp; exact hr

theorem State.frameDone_engine (s : State) (p : Port) (r : ResultCode) (out : List Byte) (drawn : Nat) :
    EngineOnly s (s.frameDone p r out drawn) := by
  have h : EngineOnly s (s.setPort p { s.port p with lastResult := r, assembly := none, out }) :=
    .setPort fun hp hr => by subst hp; exact hr
  exact h.trans ⟨(State.setFills_only _ _).mono, id⟩

/-- OFFICE has no repeat command (R174). -/
theorem State.enterRepeat_engine (s : State) (p : Port) (c : Command) (args : List Byte) (r : ResultCode) :
    EngineOnly s (s.enterRepeat p c args r) := by
  unfold State.enterRepeat
  split
  case isTrue h => exact .setPort fun hp => by subst hp; exact nomatch h.1
  case isFalse => exact .refl

/-- The blocks' part of a frame that is taken, then the engine's. -/
theorem takeFrame_took (p : Port) (wire : List Byte) (m : Option Sample) (hl : linesOf i = some l)
    (hi : isEvent i = false) (hrun : s.running = true) :
    ∃ u, Took i s u ∧ EngineOnly u (takeFrame p l wire m s).2 := by
  have hcommand (c : Command) (args : List Byte) (hr : isRead c = false) : Took i s (runCommand c l args s).2 :=
    .command c l args hl hi hrun hr
  unfold takeFrame
  split
  case isTrue =>
    unfold takeRepeat
    split
    · exact ⟨s, .idle, s.leaveRepeat_engine p⟩
    · cases p with
      | office => exact ⟨s, .idle, .refl⟩
      | lift =>
        dsimp only [repeatCommand]
        split
        exacts [⟨s, .idle, .refl⟩, ⟨_, hcommand .carQuery _ rfl, .refl⟩]
      | field =>
        dsimp only [repeatCommand]
        split
        exacts [⟨s, .idle, .refl⟩, ⟨_, hcommand .present _ rfl, .refl⟩]
  case isFalse =>
    split
    · exact ⟨s, .idle, .refl⟩
    · unfold takeCoded
      split
      · exact ⟨s, .idle, .refl⟩
      · rename_i c _
        split
        · exact ⟨s, .idle, .refl⟩
        split
        · exact ⟨s, .idle, .refl⟩
        split
        case isTrue hr =>
          cases m with
          | none => exact ⟨s, .idle, .refl⟩
          | some m =>
            dsimp only [takeRead]
            split
            exacts [⟨_, .read c _ m hr hi, .refl⟩, ⟨s, .idle, .refl⟩]
        case isFalse hr => exact ⟨_, hcommand c _ (by simpa using hr), State.enterRepeat_engine _ _ _ _ _⟩

theorem endFrame_took (p : Port) (fr : OpenFrame) (more : List Byte) (hl : linesOf i = some l) (hi : isEvent i = false)
    (hrun : s.running = true) : ∃ u, Took i s u ∧ EngineOnly u (endFrame p l fr more s) := by
  unfold endFrame
  dsimp only
  split
  · exact ⟨s, .idle, .setPort fun hp hr => by subst hp; exact hr⟩
  · obtain ⟨u, htook, hengine⟩ := takeFrame_took p (fr.wire ++ more) (fr.finalSample p (fr.wire ++ more) s) hl hi hrun
    exact ⟨u, htook, hengine.trans (State.frameDone_engine _ _ _ _ _)⟩

theorem frameEvent_took (f : Frame) (wire : List Byte) (hl : linesOf i = some f.lines) (hi : isEvent i = false) :
    ∃ u, Took i s u ∧ EngineOnly u (frameEvent f wire s) := by
  unfold frameEvent
  split
  case isFalse => exact ⟨s, .idle, .refl⟩
  case isTrue hrun =>
    split
    · exact endFrame_took _ _ _ hl hi hrun
    · exact ⟨s, .idle, s.holdFrame_engine _ _⟩
    · exact ⟨s, .idle, s.holdFrame_engine _ _⟩
    · refine ⟨s, .idle, ?_⟩
      unfold clockFrame
      split
      exacts [.refl, s.holdFrame_engine _ _]
    · unfold closeFrame
      split
      · exact ⟨s, .idle, .refl⟩
      · exact endFrame_took _ _ _ hl hi hrun

/-- What an event is made of: the effect of at most one command, read or event, and the port engines' own record. -/
theorem exec_took (i : Instr) (s t : State) (h : exec i s = .next t) : ∃ u, Took i s u ∧ EngineOnly u t := by
  by_cases hi : isEvent i = true
  · rw [exec_event i s hi] at h
    obtain rfl := Host.Outcome.next.inj h
    split
    case isTrue htaken => exact ⟨_, .event hi htaken, .refl⟩
    case isFalse => exact ⟨s, .idle, .refl⟩
  · replace hi : isEvent i = false := by simpa using hi
    cases i
    case framing p bytes =>
      obtain rfl := Host.Outcome.next.inj h
      refine ⟨s, .idle, ?_⟩
      split
      exacts [(s.leaveRepeat_engine p).trans (State.frameDone_engine _ _ _ _ _), .refl]
    case gateContactOpen | gateContactClose | egressRequest | fireInputActive | fireInputInactive | rstAssert | pinReset
      | coldReset | retentionReset | mainPowerLoss | secondTick | minuteTick | entryDecision | exitDecision | zoneDecision
      | carDecision | loaderExamine | releaseTimerExpiry | heldOpenTimerExpiry | pickTimerExpiry | passageWindowDeadline
      | tripDeadline | editWindowExpiry | integritySweep | supplySample | pwmPeriodStart | vbatBelowHoldingLevel => cases hi
    all_goals
      obtain rfl := Host.Outcome.next.inj h
      exact frameEvent_took _ _ rfl rfl

end

/-! ### Laws -/

/-- The law reads no parts but these. -/
def Reads (P : State → Prop) (ps : List Part) : Prop := ∀ s t : State, (∀ q : Part, q.isIn ps = true → q.same s t) → P s → P t

/-- A law is kept where none of the parts it reads is written. -/
theorem Only.keeps {P : State → Prop} {ps qs : List Part} {s t : State} (h : Only ps s t) (hP : Reads P qs)
    (hpq : meets qs ps = false) (hs : P s) : P t := by
  refine hP s t (fun q hq => h q (Bool.eq_false_iff.2 fun hps => ?_)) hs
  refine absurd hpq (Bool.not_eq_false _ ▸ ?_)
  simp only [meets, Part.isIn, List.any_eq_true, beq_iff_eq] at *
  obtain ⟨r, hr, hrq⟩ := hq
  obtain ⟨p, hp, hpq'⟩ := hps
  exact ⟨r, hr, p, hp, hpq'.trans hrq.symm⟩

/-- A law that the commands, reads and events keep that write a part it reads is kept by every step. -/
theorem exec_keeps {P : State → Prop} {ps : List Part} (hP : Reads P ps) (hports : meets ps [.office, .ports] = false := by rfl)
    (hcommand : ∀ c l args s, meets ps (commandParts c) = true → s.running = true → P s → P (runCommand c l args s).2)
    (hread : ∀ c bytes m s, isRead c = true → meets ps (commandParts c) = true → P s → P (endRead c bytes m s))
    (hevent : ∀ i s, meets ps (eventParts i) = true → P s → P (runEvent i s)) (i : Instr) (s t : State) (hs : P s)
    (h : exec i s = .next t) : P t := by
  have keep {ps' : List Part} {s t : State} (ho : Only ps' s t) (hs : P s) (hk : meets ps ps' = true → P t) : P t := by
    by_cases hm : meets ps ps' = true
    exacts [hk hm, ho.keeps hP (by simpa using hm) hs]
  obtain ⟨u, htook, hengine⟩ := exec_took i s t h
  refine hengine.1.keeps hP hports ?_
  cases htook with
  | idle => exact hs
  | command c l args _ _ hrun => exact keep (runCommand_only c l args s) hs fun hm => hcommand c l args s hm hrun hs
  | read c bytes m hr => exact keep (endRead_only c bytes m s) hs fun hm => hread c bytes m s hr hm hs
  | event hi htaken => exact keep (runEvent_only i s) hs fun hm => hevent i s hm hs

/-! ### Canonical form, and the queue -/

theorem exec_next (i : Instr) (s : State) : ∃ t, exec i s = .next t := by
  cases i <;> exact ⟨_, rfl⟩

/-- No command, read or event writes the queue. -/
theorem took_pending {i : Instr} {s u : State} (h : Took i s u) : u.pending = s.pending := by
  cases h with
  | idle => rfl
  | command c l args => exact runCommand_only c l args s .queue (by cases c <;> rfl)
  | read c bytes m => exact endRead_only c bytes m s .queue (by cases c <;> rfl)
  | event => exact runEvent_only i s .queue (by cases i <;> rfl)

/-- Settles O2: every arm of the dispatch answers a next state, and none of the parts that events write is the queue. -/
theorem everyCommandCompletesAndKeepsTheQueue : Obligations.EveryCommandCompletesAndKeepsTheQueue := by
  intro i s
  obtain ⟨t, ht⟩ := exec_next i s
  obtain ⟨u, htook, hengine⟩ := exec_took i s t ht
  exact ⟨t, ht, (hengine.1 .queue rfl).trans (took_pending htook)⟩

/-- Settles O1: `step` is that match on the queue. -/
theorem stepRunsTheFrontCommand : Obligations.StepRunsTheFrontCommand := by
  intro s c rest
  constructor <;> intro h <;> simp only [step, h]

/-- Every named write keeps the canonical form of the collections (assumption log 17). -/
theorem Writes.canonical {a s : State} (h : Writes a s) (ha : a.canonical) : s.canonical := by
  induction h with
  | refl => exact ha
  | setTenant _ _ _ ih => exact State.setTenant_canonical ih _ _
  | setUnit _ _ _ ih => exact State.setUnit_canonical ih _ _
  | setProfile _ _ _ ih => exact State.setProfile_canonical ih _ _
  | setStation _ _ _ ih => exact State.setStation_canonical ih _ _
  | setCar _ _ _ ih => exact State.setCar_canonical ih _ _
  | setChannel _ _ _ ih => exact State.setChannel_canonical ih _ _
  | setParam _ _ _ ih => exact State.setParam_canonical ih _ _
  | setPort _ _ _ ih => exact State.setPort_canonical ih _ _
  | _ => assumption

theorem State.dropWork_canonical {s : State} (h : s.canonical) : s.dropWork.canonical := by
  obtain ⟨htenants, hunits, hprofiles, -, -, hchannels, hparams⟩ := h
  exact ⟨htenants, hunits, hprofiles, Table.wf_nil _, Table.wf_nil _, hchannels, hparams⟩

theorem State.dropRetained_canonical {s : State} (h : s.canonical) : s.dropRetained.canonical := by
  obtain ⟨-, -, -, hstations, hcars, hchannels, -⟩ := h
  exact ⟨Table.wf_nil _, Table.wf_nil _, Table.wf_nil _, hstations, hcars, hchannels, Table.wf_nil _⟩

section
variable {s : State} (l : Lines)

theorem State.warmReset_canonical (h : s.canonical) (cause : ResetCause) : (s.warmReset cause l).canonical :=
  (Writes.restart .refl _ _ _).canonical (State.dropWork_canonical h)

theorem State.coldReset_canonical (h : s.canonical) (checkPasses : Bool) : (s.coldReset l checkPasses).canonical :=
  (Writes.restart .refl _ _ _).canonical
    ((Writes.refl.setPower _).canonical (State.dropRetained_canonical (State.dropWork_canonical h)))

theorem State.retentionReset_canonical (h : s.canonical) (checkPasses : Bool) : (s.retentionReset l checkPasses).canonical :=
  (Writes.restart .refl _ _ _).canonical ((Writes.refl.setPower _).canonical (State.dropWork_canonical h))

end

/-- Every command keeps the canonical form. -/
theorem runCommand_canonical (c : Command) (l : Lines) (args : List Byte) {s : State} (h : s.canonical) :
    (runCommand c l args s).2.canonical := by
  by_cases hselect : c = .selectTenant
  · subst hselect
    show (runSelectTenant args s).2.canonical
    rw [runSelectTenant_eq]
    split <;> exact h
  by_cases hfind : c = .findTenant
  · subst hfind
    show (runFindTenant args s).2.canonical
    unfold runFindTenant
    split
    · exact h
    · split <;> exact h
  by_cases hreset : c = .deviceReset
  · subst hreset
    exact State.warmReset_canonical l h .command
  exact (Writes.command c l args hselect hfind hreset).canonical h

/-- Every event that is no frame keeps the canonical form. -/
theorem runEvent_canonical (i : Instr) {s : State} (hi : isEvent i = true) (htaken : (s.running || reachesHeld i) = true)
    (h : s.canonical) : (runEvent i s).canonical := by
  by_cases hl : linesOf i = none
  · obtain ⟨t, ht, hwrites⟩ := exec_writes i s hl
    rw [exec_event i s hi, if_pos htaken] at ht
    rw [Host.Outcome.next.inj ht]
    exact hwrites.canonical h
  · cases i
    case pinReset l =>
      show (s.pinReset l).canonical
      unfold State.pinReset
      split
      case isTrue => exact State.warmReset_canonical l ((Writes.refl.setPower _).canonical h) .pin
      case isFalse => exact h
    case coldReset l b => exact State.coldReset_canonical l h b
    case retentionReset l b =>
      show (s.powerReturns l b).canonical
      unfold State.powerReturns
      split
      exacts [State.retentionReset_canonical l h b, State.coldReset_canonical l h b]
    all_goals first | exact absurd rfl hl | exact nomatch hi

/-- What an event makes of the collections is canonical. -/
theorem took_canonical {i : Instr} {s u : State} (h : Took i s u) (hs : s.canonical) : u.canonical := by
  cases h with
  | idle => exact hs
  | command c l args => exact runCommand_canonical c l args hs
  | read c bytes m => exact (Writes.refl.endRead c bytes m).canonical hs
  | event hi htaken => exact runEvent_canonical i hi htaken hs

/-- Every reset leaves the OFFICE engine as it leaves the others (R171). -/
theorem State.restart_office (s : State) (cause : ResetCause) (l : Lines) (checkFailed : Bool) :
    (s.restart cause l checkFailed).office = s.office := s.restart_only cause l checkFailed .office rfl

section
variable (s : State) (l : Lines)

theorem State.warmReset_portLaw (cause : ResetCause) : (s.warmReset cause l).portLaw :=
  congrArg PortState.repeating (s.dropWork.restart_office cause l false)

theorem State.coldReset_portLaw (b : Bool) : (s.coldReset l b).portLaw :=
  congrArg PortState.repeating (State.restart_office _ .cold l !b)

theorem State.retentionReset_portLaw (b : Bool) : (s.retentionReset l b).portLaw :=
  congrArg PortState.repeating (State.restart_office _ .retention l !b)

end

/-- OFFICE enters repeat mode by no command, read or event. -/
theorem took_portLaw {i : Instr} {s u : State} (h : Took i s u) (hs : s.portLaw) : u.portLaw := by
  have keep {ps : List Part} {u : State} (ho : Only ps s u) (hp : Part.office.isIn ps = false) : u.portLaw :=
    (congrArg PortState.repeating (ho .office hp)).trans hs
  cases h with
  | idle => exact hs
  | command c l args =>
    by_cases hc : c = .deviceReset
    · subst hc
      exact s.warmReset_portLaw l .command
    · exact keep (runCommand_only c l args s) (by cases c <;> first | rfl | exact absurd rfl hc)
  | read c bytes m hr => exact keep (endRead_only c bytes m s) (by cases c <;> first | rfl | exact nomatch hr)
  | event hi htaken =>
    by_cases hoffice : Part.office.isIn (eventParts i) = false
    · exact keep (runEvent_only i s) hoffice
    · cases i
      case pinReset l =>
        show (s.pinReset l).portLaw
        unfold State.pinReset
        split
        exacts [State.warmReset_portLaw _ l .pin, hs]
      case coldReset l b => exact s.coldReset_portLaw l b
      case retentionReset l b =>
        show (s.powerReturns l b).portLaw
        unfold State.powerReturns
        split
        exacts [s.retentionReset_portLaw l b, s.coldReset_portLaw l b]
      all_goals exact absurd rfl hoffice

/-- Settles O54: every write keeps the canonical form, and no effect puts OFFICE into repeat mode. -/
theorem collectionsStayCanonical : Obligations.CollectionsStayCanonical := by
  rintro i s t ⟨hcanonical, hport⟩ h
  obtain ⟨u, htook, hengine, hrepeat⟩ := exec_took i s t h
  have hu : u.canonical := took_canonical htook hcanonical
  refine ⟨?_, ?_⟩
  · unfold State.canonical at hu ⊢
    rw [hengine .tenants rfl, hengine .units rfl, hengine .profiles rfl, hengine .stations rfl, hengine .cars rfl,
      hengine .channels rfl, hengine .params rfl]
    exact hu
  · have huport : u.office.repeating = false := took_portLaw htook hport
    show t.office.repeating = false
    rw [Bool.eq_false_iff] at huport ⊢
    exact huport ∘ hrepeat

end Sys2Proof.Machine
end

section
/-! The commands that edit the rights tables, by what each leaves where it is taken, and what they make of one tenant slot: the
protected range (R9), the enrolment (R4) and the credentials (R3) follow from it. -/

namespace Sys2Proof.Machine

set_option Elab.async false -- one thread for the file, as in the tests: a thread for each theorem reaches the memory limit

/-! ### The commands where they are taken -/

/-- A command's effect stands only where every check has passed. -/
theorem answer_inv (checks : List (Bool × ResultCode)) (s effect : State) :
    (answer checks s effect).2 = s ∨ (∀ c ∈ checks, c.1 = false) ∧ (answer checks s effect).2 = effect := by
  rw [answer_eq]
  cases h : firstHolding checks with
  | some r => exact .inl rfl
  | none => exact .inr ⟨firstHolding_eq_none.1 h, rfl⟩

/-- The cursor names `slot`, and the slot is outside the protected range unless SVCKEY is active (R9, R10). -/
def State.edits (s : State) (svckey : Bool) (slot : Nat) : Prop :=
  s.cursor = some slot ∧ (slot < s.protectedCount → svckey = true)

section
variable {s : State} {svckey : Bool} {args : List Byte}

/-- The checks that every edit of the cursor slot makes, passed (R10). -/
theorem State.edits_of_editChecks {rest : List (Bool × ResultCode)} (h : ∀ c ∈ s.editChecks svckey ++ rest, c.1 = false) :
    s.edits svckey s.cursorSlot ∧ ∀ c ∈ rest, c.1 = false := by
  simp only [State.editChecks, List.cons_append, List.nil_append, List.forall_mem_cons] at h
  obtain ⟨hcursor, -, hprotected, hrest⟩ := h
  refine ⟨⟨?_, fun hlt => ?_⟩, hrest⟩
  · obtain ⟨i, hi⟩ := Option.isSome_iff_exists.1 (Option.isNone_eq_false_iff.1 hcursor)
    rw [State.cursorSlot_some hi, hi]
  · simpa [State.isProtected, hlt] using hprotected

theorem runTenantWrite_cases (svckey : Bool) (args : List Byte) (s : State) :
    (runTenantWrite svckey args s).2 = s ∨
      ∃ slot d, s.edits svckey slot ∧ s.credentialTaken d.credential slot = false ∧
        (runTenantWrite svckey args s).2 = s.setTenant slot ((s.tenant slot).write d) := by
  unfold runTenantWrite
  split
  case h_1 => exact .inl rfl
  case h_2 d _ =>
    refine (answer_inv _ _ _).imp_right fun ⟨hchecks, heffect⟩ => ?_
    obtain ⟨hedits, hrest⟩ := State.edits_of_editChecks hchecks
    simp only [List.forall_mem_cons] at hrest
    obtain ⟨hcredential, -⟩ := hrest
    exact ⟨s.cursorSlot, d, hedits, hcredential, heffect⟩

theorem newStateOf_ne_free {b : Byte} {new : TenantState} (h : newStateOf b = some new) : new ≠ .free := by
  unfold newStateOf at h
  split at h <;> cases h <;> nofun

theorem runTenantState_cases (svckey : Bool) (args : List Byte) (s : State) :
    (runTenantState svckey args s).2 = s ∨
      ∃ slot new, s.edits svckey slot ∧ (s.tenant slot).state ≠ .free ∧ new ≠ .free ∧
        (runTenantState svckey args s).2 =
          (s.setTenant slot { s.tenant slot with state := new }).overlockChange slot (s.tenant slot).state new := by
  unfold runTenantState
  split
  case h_1 => exact .inl rfl
  case h_2 new hnew =>
    refine (answer_inv _ _ _).imp_right fun ⟨hchecks, heffect⟩ => ?_
    obtain ⟨hedits, hrest⟩ := State.edits_of_editChecks hchecks
    obtain ⟨huse, -⟩ := List.forall_mem_cons.1 hrest
    exact ⟨_, new, hedits, by simpa [State.inUseCheck] using huse, newStateOf_ne_free hnew, heffect⟩

theorem runTenantFree_cases (svckey : Bool) (s : State) :
    (runTenantFree svckey s).2 = s ∨
      ∃ slot, s.edits svckey slot ∧ (s.tenant slot).state ≠ .free ∧ s.isPresent slot = false ∧
        (runTenantFree svckey s).2 = s.freeTenant slot := by
  refine (answer_inv _ _ _).imp_right fun ⟨hchecks, heffect⟩ => ?_
  obtain ⟨hedits, hrest⟩ := State.edits_of_editChecks hchecks
  simp only [List.forall_mem_cons, State.inUseCheck] at hrest
  obtain ⟨huse, habsent, -⟩ := hrest
  exact ⟨_, hedits, by simpa using huse, habsent, heffect⟩

theorem runAssignUnit_cases (svckey : Bool) (args : List Byte) (s : State) :
    (runAssignUnit svckey args s).2 = s ∨
      ∃ slot u, s.edits svckey slot ∧ (s.tenant slot).state ≠ .free ∧ (s.unit u).tenant = none ∧
        (s.tenant slot).units.length < Config.unitsPerTenant ∧ (runAssignUnit svckey args s).2 = s.assignUnit slot u := by
  refine (answer_inv _ _ _).imp_right fun ⟨hchecks, heffect⟩ => ?_
  obtain ⟨hedits, hrest⟩ := State.edits_of_editChecks fun c hc => hchecks c (List.mem_cons_of_mem _ hc)
  simp only [List.forall_mem_cons, State.inUseCheck] at hrest
  obtain ⟨huse, -, htaken, hfull, -⟩ := hrest
  exact ⟨_, _, hedits, by simpa using huse, by simpa using htaken, by simpa using hfull, heffect⟩

theorem runReleaseUnit_cases (svckey : Bool) (args : List Byte) (s : State) :
    (runReleaseUnit svckey args s).2 = s ∨
      ∃ slot u, s.edits svckey slot ∧ (s.tenant slot).state ≠ .free ∧ u ∈ (s.tenant slot).units ∧
        (runReleaseUnit svckey args s).2 =
          (s.setTenant slot { s.tenant slot with units := (s.tenant slot).units.filter (· != u) }).releaseUnit u := by
  refine (answer_inv _ _ _).imp_right fun ⟨hchecks, heffect⟩ => ?_
  obtain ⟨hedits, hrest⟩ := State.edits_of_editChecks fun c hc => hchecks c (List.mem_cons_of_mem _ hc)
  simp only [List.forall_mem_cons, State.inUseCheck] at hrest
  obtain ⟨huse, hfound, -⟩ := hrest
  exact ⟨_, _, hedits, by simpa using huse, by simpa using hfound, heffect⟩

/-- The lists without repetition. -/
theorem noRepeats_iff (us : List Nat) : noRepeats us = true ↔ us.Nodup := by
  induction us with
  | nil => simp [noRepeats]
  | cons u us ih => simp [noRepeats, ih]

/-- The six cases of R143, as one proposition. -/
theorem State.skipsTenant_eq_false (s : State) (svckey : Bool) (target : Nat) (d : TenantDetails) (us : List Nat) :
    s.skipsTenant svckey target d us = false ↔
      (s.tenant target).state = .free ∧ (target < s.protectedCount → svckey = true) ∧
        (∀ j < 2048, (s.tenant j).state ≠ .free → (s.tenant j).credential ≠ d.credential) ∧ (∀ u ∈ us, u < 3072) ∧ us.Nodup ∧
        ∀ u ∈ us, (s.unit u).tenant = none := by
  simp only [State.skipsTenant, State.isProtected, State.holdsCredential, Bool.or_eq_false_iff, bne_eq_false_iff_eq,
    Bool.and_eq_false_iff, decide_eq_false_iff_not, Bool.not_eq_false', List.any_eq_false, List.mem_range, Bool.and_eq_true,
    bne_iff_ne, ne_eq, beq_iff_eq, not_and, decide_eq_true_eq, not_le, noRepeats_iff, Option.not_isSome_iff_eq_none, and_assoc]
  rw [← imp_iff_not_or]

/-- What the examination of the oldest record leaves: its tables, then the loader's record and perhaps LOAD_DONE (R142, R145). -/
theorem State.takeRecord_cases (s : State) (svckey : Bool) :
    s.takeRecord svckey = s ∨
      ∃ r rest, s.loader.buffer = r :: rest ∧ ∃ goes es,
        s.takeRecord svckey =
          ((s.examine svckey s.loader.nextTarget r).2.setLoader
            { s.loader.examined rest (s.examine svckey s.loader.nextTarget r).1 with active := goes }).logged es ∧
        goes = if (s.loader.examined rest (s.examine svckey s.loader.nextTarget r).1).committed +
            (s.loader.examined rest (s.examine svckey s.loader.nextTarget r).1).skipped = s.loader.count then false
          else s.loader.active := by
  unfold State.takeRecord
  split
  case h_1 r rest hwork =>
    refine .inr ⟨r, rest, ?_, ?_⟩
    · unfold State.nextWork at hwork
      rw [Option.or_eq_some_iff, Option.or_eq_some_iff] at hwork
      rcases hwork with hcar | ⟨-, hstation | ⟨-, hrecord⟩⟩
      · obtain ⟨n, -, hn⟩ := List.exists_of_findSome?_eq_some hcar
        unfold State.carWork at hn
        split at hn <;> simp at hn
      · obtain ⟨n, -, hn⟩ := List.exists_of_findSome?_eq_some hstation
        unfold State.stationWork at hn
        split at hn <;> simp at hn
      · unfold State.recordWork at hrecord
        split at hrecord
        case h_1 heq => simp only [Option.some.injEq, Work.record.injEq] at hrecord; rw [heq, hrecord.1, hrecord.2]
        case h_2 => simp at hrecord
    · unfold State.examineOldest
      dsimp only
      split
      case isTrue hended => exact ⟨_, [.loadDone s.loader.kind _ _], rfl, (if_pos hended).symm⟩
      case isFalse hgoes => exact ⟨_, [], rfl, (if_neg hgoes).symm⟩
  case h_2 => exact .inl rfl

end

/-! ### One tenant slot at a time -/

/-- A write of `r` at tenant slot `slot` that R3, R4 and R9 allow: protected slots only with the key, an enrolment counted exactly
at a departure from FREE, and no credential that another slot in use holds. -/
structure LawfulWrite (s : State) (svckey : Bool) (slot : Nat) (r : TenantRecord) : Prop where
  key : slot < s.protectedCount → svckey = true
  enrolment : r.enrolment =
    if (s.tenant slot).state = .free ∧ r.state ≠ .free then (s.tenant slot).enrolment + 1 else (s.tenant slot).enrolment
  credential : r.state = .free ∨ ((s.tenant slot).state ≠ .free ∧ r.credential = (s.tenant slot).credential) ∨
    ∀ j < 2048, j ≠ slot → (s.tenant j).state ≠ .free → (s.tenant j).credential ≠ r.credential

theorem keyActive_of_lines {i : Instr} {l : Lines} (h : linesOf i = some l) : keyActive i = l.svckey := by
  have hkey : keyActive i = (linesOf i).any (·.svckey) := by
    cases i
    case loaderExamine => exact nomatch h
    all_goals rfl
  rw [hkey, h]
  rfl

/-- The tenant table of `u` is that of `s`, or has one lawful write more. -/
def EditsTenants (s : State) (svckey : Bool) (u : State) : Prop :=
  u.tenants = s.tenants ∨ ∃ slot r, LawfulWrite s svckey slot r ∧ u.tenants = (s.setTenant slot r).tenants

section
variable {s : State} {svckey : Bool}

theorem TenantRecord.write_enrolment (r : TenantRecord) (d : TenantDetails) :
    (r.write d).enrolment = if r.state = .free ∧ (r.write d).state ≠ .free then r.enrolment + 1 else r.enrolment := by
  by_cases h : r.state = .free <;> simp [TenantRecord.write, h]

/-- A write that leaves FREE or use as it was, and in use the credential. -/
theorem LawfulWrite.of_inUse {slot : Nat} {r : TenantRecord} (hkey : slot < s.protectedCount → svckey = true)
    (huse : (s.tenant slot).state ≠ .free) (he : r.enrolment = (s.tenant slot).enrolment)
    (hc : r.credential = (s.tenant slot).credential) : LawfulWrite s svckey slot r where
  key := hkey
  enrolment := by rw [if_neg fun h => huse h.1, he]
  credential := .inr (.inl ⟨huse, hc⟩)

theorem State.credentialTaken_eq_false {c : Credential} {slot : Nat} (h : s.credentialTaken c slot = false) :
    ∀ j < 2048, j ≠ slot → (s.tenant j).state ≠ .free → (s.tenant j).credential ≠ c := by
  rw [State.credentialTaken_eq] at h
  simpa [Classical.not_imp, not_and] using h

/-- The tenants' table after a write and what changes no tenant. -/
theorem EditsTenants.of_only {slot : Nat} {r : TenantRecord} {u : State} (hw : LawfulWrite s svckey slot r)
    (ho : Only [.units] (s.setTenant slot r) u) : EditsTenants s svckey u := .inr ⟨slot, r, hw, ho .tenants rfl⟩

theorem runCommand_editsTenants (c : Command) (l : Lines) (args : List Byte) (s : State) :
    EditsTenants s l.svckey (runCommand c l args s).2 := by
  have same {u : State} (hu : u = s) : EditsTenants s l.svckey u := .inl (by rw [hu])
  cases c
  case tenantWrite =>
    rcases runTenantWrite_cases l.svckey args s with h | ⟨slot, d, hedits, hfree, h⟩
    · exact same h
    · refine .inr ⟨slot, _, ⟨hedits.2, TenantRecord.write_enrolment _ _, .inr (.inr ?_)⟩, congrArg State.tenants h⟩
      exact State.credentialTaken_eq_false hfree
  case tenantState =>
    rcases runTenantState_cases l.svckey args s with h | ⟨slot, new, hedits, huse, -, h⟩
    · exact same h
    · rw [show (runCommand .tenantState l args s).2 = _ from h]
      have hw : LawfulWrite s l.svckey slot { s.tenant slot with state := new } := .of_inUse hedits.2 huse rfl rfl
      exact .of_only hw (State.overlockChange_only _ _ _ _)
  case tenantFree =>
    rcases runTenantFree_cases l.svckey s with h | ⟨slot, hedits, huse, -, h⟩
    · exact same h
    · rw [show (runCommand .tenantFree l args s).2 = _ from h]
      have hw : LawfulWrite s l.svckey slot { s.tenant slot with state := .free, units := [] } := ⟨hedits.2, by simp, .inl rfl⟩
      exact .of_only hw (Only.foldl State.releaseUnit_only _ _)
  case assignUnit =>
    rcases runAssignUnit_cases l.svckey args s with h | ⟨slot, u, hedits, huse, -, -, h⟩
    · exact same h
    · rw [show (runCommand .assignUnit l args s).2 = _ from h]
      have hw : LawfulWrite s l.svckey slot { s.tenant slot with units := (s.tenant slot).units ++ [u] } :=
        .of_inUse hedits.2 huse rfl rfl
      exact .of_only hw (Only.trans (rs := [.units]) (State.setUnit_only _ _ _) (State.assignArming_only _ _))
  case releaseUnit =>
    rcases runReleaseUnit_cases l.svckey args s with h | ⟨slot, u, hedits, huse, -, h⟩
    · exact same h
    · rw [show (runCommand .releaseUnit l args s).2 = _ from h]
      have hw : LawfulWrite s l.svckey slot { s.tenant slot with units := (s.tenant slot).units.filter (· != u) } :=
        .of_inUse hedits.2 huse rfl rfl
      exact .of_only hw (State.releaseUnit_only _ _)
  all_goals exact .inl (runCommand_only _ l args s .tenants rfl)

/-- A committed TENANT record takes a FREE slot and a credential that no slot in use holds (R143). -/
theorem State.examine_editsTenants (s : State) (svckey : Bool) (target : Nat) (r : LoadRecord) :
    EditsTenants s svckey (s.examine svckey target r).2 := by
  cases r with
  | floor f =>
    unfold State.examine
    dsimp only
    split <;> exact .inl rfl
  | tenant d us =>
    unfold State.examine
    dsimp only
    split
    case isTrue => exact .inl rfl
    case isFalse hskip =>
      obtain ⟨hfree, hkey, hcredential, -⟩ := (s.skipsTenant_eq_false svckey target d us).1 (by simpa using hskip)
      have hw : LawfulWrite s svckey target { (s.tenant target).write d with units := us } :=
        ⟨hkey, TenantRecord.write_enrolment _ d, .inr (.inr fun j hj _ => hcredential j hj)⟩
      exact .of_only hw (Only.foldl (fun s _ => (s.setUnit_only _ _).trans (State.assignArming_only _ _)) _ _)

theorem State.takeRecord_editsTenants (s : State) (svckey : Bool) : EditsTenants s svckey (s.takeRecord svckey) := by
  rcases s.takeRecord_cases svckey with h | ⟨r, rest, -, goes, es, h, -⟩
  · exact .inl (by rw [h])
  · have ht : (s.takeRecord svckey).tenants = (s.examine svckey s.loader.nextTarget r).2.tenants := by
      rw [h, State.logged_frame]
      rfl
    rcases s.examine_editsTenants svckey s.loader.nextTarget r with he | ⟨slot, w, hw, he⟩
    exacts [.inl (ht.trans he), .inr ⟨slot, w, hw, ht.trans he⟩]

/-- The state whose channels and mode a COLD reset then restarts. -/
def State.coldStart (s : State) : State :=
  s.dropWork.dropRetained.setPower { s.power with main := true, retention := true }

theorem State.coldReset_eq (l : Lines) (checkPasses : Bool) :
    s.coldReset l checkPasses = s.coldStart.restart .cold l !checkPasses := rfl

theorem State.coldReset_tenants (l : Lines) (checkPasses : Bool) : (s.coldReset l checkPasses).tenants = [] := by
  rw [State.coldReset_eq]
  exact s.coldStart.restart_only .cold l (!checkPasses) .tenants rfl

/-- Main power returns: a RETENTION reset, or a COLD one where the retention is not valid (R160). -/
theorem State.powerReturns_eq (l : Lines) (checkPasses : Bool) :
    s.powerReturns l checkPasses = if s.power.retention then s.retentionReset l checkPasses else s.coldReset l checkPasses := rfl

/-- Outside a COLD reset, no event does more to the tenants than one lawful write. -/
theorem took_editsTenants {i : Instr} {u : State} (h : Took i s u) :
    EditsTenants s (keyActive i) u ∨ makesCold i s = true ∧ u.tenants = [] := by
  cases h with
  | idle => exact .inl (.inl rfl)
  | command c l args hl hi =>
    exact .inl (keyActive_of_lines hl ▸ runCommand_editsTenants c l args s)
  | read c bytes m => exact .inl (.inl (endRead_only c bytes m s .tenants (by cases c <;> first | rfl | contradiction)))
  | event hi htaken =>
    by_cases ht : Part.tenants.isIn (eventParts i) = false
    · exact .inl (.inl (runEvent_only i s .tenants ht))
    · cases i
      case loaderExamine key => exact .inl (s.takeRecord_editsTenants key)
      case coldReset l b => exact .inr ⟨rfl, s.coldReset_tenants l b⟩
      case retentionReset l b =>
        rw [show runEvent (.retentionReset l b) s = s.powerReturns l b from rfl, State.powerReturns_eq]
        split
        case isTrue => exact .inl (.inl (s.retentionReset_only l b .tenants rfl))
        case isFalse hr => exact .inr ⟨by simpa [makesCold] using hr, s.coldReset_tenants l b⟩
      all_goals exact absurd rfl ht

end

/-! ### The statements -/

theorem State.tenant_eq_of_tenants {s t : State} (h : t.tenants = s.tenants) (i : Nat) : t.tenant i = s.tenant i := by
  unfold State.tenant
  rw [h]

/-- What an event that makes no COLD reset leaves in a tenant slot: the slot, or the record of a lawful write. -/
theorem exec_tenant {i : Instr} {s t : State} (hcold : makesCold i s = false) (h : exec i s = .next t) (slot : Nat) :
    t.tenant slot = s.tenant slot ∨ LawfulWrite s (keyActive i) slot (t.tenant slot) := by
  obtain ⟨u, htook, hengine⟩ := exec_took i s t h
  rw [State.tenant_eq_of_tenants (hengine.1 .tenants rfl)]
  rcases took_editsTenants htook with (hu | ⟨k, r, hw, hu⟩) | ⟨hc, -⟩
  · exact .inl (State.tenant_eq_of_tenants hu slot)
  · rw [State.tenant_eq_of_tenants hu, State.setTenant_tenant]
    split
    case isTrue hslot => exact .inr (hslot ▸ hw)
    case isFalse => exact .inl rfl
  · exact absurd (hcold.symm.trans hc) nofun

/-- Settles O57: a lawful write counts the enrolment exactly at a departure from FREE. -/
theorem enrolmentCountsDeparturesFromFree : Obligations.EnrolmentCountsDeparturesFromFree := by
  intro i s t slot hcold h
  rcases exec_tenant hcold h slot with hsame | hw
  · rw [hsame, if_neg fun hfree => hfree.2 hfree.1]
  · exact hw.enrolment

/-- A lawful write keeps the credentials of the slots in use apart (R3). -/
theorem LawfulWrite.credentialLaw {s : State} {svckey : Bool} {slot : Nat} {r : TenantRecord} (hw : LawfulWrite s svckey slot r)
    (hs : s.credentialLaw) : (s.setTenant slot r).credentialLaw := by
  have apart (j : Nat) (hj : j < 2048) (hne : j ≠ slot) (hslot : slot < 2048) (huse : (s.tenant j).state ≠ .free)
      (hr : r.state ≠ .free) : (s.tenant j).credential ≠ r.credential := by
    rcases hw.credential with hfree | ⟨hold, hc⟩ | hother
    · exact absurd hfree hr
    · exact fun h => hne (hs j slot hj hslot huse hold (h.trans hc))
    · exact hother j hj hne huse
  intro i j hi hj
  rw [State.setTenant_tenant, State.setTenant_tenant]
  split
  case isTrue hislot =>
    split
    case isTrue hjslot => exact fun _ _ _ => hislot.trans hjslot.symm
    case isFalse hne => exact fun hr huse hc => absurd hc.symm (apart j hj hne (hislot ▸ hi) huse hr)
  case isFalse hne =>
    split
    case isTrue hjslot => exact fun huse hr hc => absurd hc (apart i hi hne (hjslot ▸ hj) huse hr)
    case isFalse => exact hs i j hi hj

theorem State.credentialLaw_congr {s t : State} (h : t.tenants = s.tenants) (hs : s.credentialLaw) : t.credentialLaw := by
  intro i j
  rw [State.tenant_eq_of_tenants h, State.tenant_eq_of_tenants h]
  exact hs i j

/-- Every event keeps the credentials of the slots in use apart (R3). -/
theorem exec_credentialLaw (i : Instr) (s t : State) (hs : s.credentialLaw) (h : exec i s = .next t) : t.credentialLaw := by
  obtain ⟨u, htook, hengine⟩ := exec_took i s t h
  refine State.credentialLaw_congr (hengine.1 .tenants rfl) ?_
  rcases took_editsTenants htook with (hu | ⟨k, r, hw, hu⟩) | ⟨-, hu⟩
  · exact State.credentialLaw_congr hu hs
  · exact State.credentialLaw_congr hu (hw.credentialLaw hs)
  · exact credentialLaw_of_listed (by simp [hu])

/-! ### The protected count (R9, R154) -/

theorem State.param_eq_of_params {s t : State} (h : t.params = s.params) (w : Nat) : t.param w = s.param w := by
  unfold State.param
  rw [h]

theorem State.protectedCount_eq_of_param {s t : State} (h : t.param 0 = s.param 0) : t.protectedCount = s.protectedCount := by
  unfold State.protectedCount
  rw [h]

/-- PARAM WRITE taken, with what its checks have passed (R154). -/
theorem runParamWrite_cases (svckey : Bool) (args : List Byte) (s : State) :
    (runParamWrite svckey args s).2 = s ∨
      natAt args 0 < 52 ∧ s.window ≠ none ∧
        (natAt args 0 = 0 → svckey = false → clamp 0 64 (bitsOf (longAt args 1) 16 8) = s.protectedCount) ∧
        (runParamWrite svckey args s).2 = s.storeWord (natAt args 0) (longAt args 1) := by
  refine (answer_inv _ _ _).imp_right fun ⟨hchecks, heffect⟩ => ?_
  simp only [List.forall_mem_cons] at hchecks
  obtain ⟨hword, hwindow, hkey, -⟩ := hchecks
  refine ⟨by simpa using hword, fun h => by simp [h] at hwindow, fun hzero hsvc => ?_, heffect⟩
  simpa [hzero, hsvc] using hkey

/-- A stored word stands in the table; what else it acts on leaves the table. -/
theorem State.storeWord_params (s : State) (w : Nat) (v : Word) :
    (s.storeWord w v).params = (s.setParam w (storedWord w v)).params := by
  unfold State.storeWord
  dsimp only
  split
  case isTrue => exact Only.foldl (fun s _ => s.modeWritten_only _ _) _ _ .params rfl
  case isFalse => rfl

theorem State.storeWord_param (s : State) (w : Nat) (v : Word) (k : Nat) :
    (s.storeWord w v).param k = if k = w then storedWord w v else s.param k := by
  rw [State.param_eq_of_params (s.storeWord_params w v), State.setParam_param]

theorem bitsOf_eq (w : Word) (lo len : Nat) : bitsOf w lo len = w.toNat / 2 ^ lo % 2 ^ len := by
  simp [bitsOf, BitVec.extractLsb'_toNat, Nat.shiftRight_eq_div_pow]

theorem clamp_le {lo hi x : Nat} (h : lo ≤ hi) : clamp lo hi x ≤ hi := by unfold clamp; omega

theorem clamp_eq_self {lo hi x : Nat} (h1 : lo ≤ x) (h2 : x ≤ hi) : clamp lo hi x = x := by unfold clamp; omega

/-- The protected count stored is the count carried, brought into its range (R152). -/
theorem protected_storedWord (v : Word) :
    clamp 0 64 (bitsOf (storedWord 0 v) 16 8) = clamp 0 64 (bitsOf v 16 8) := by
  have h1 : clamp 1 4 (bitsOf v 24 8) ≤ 4 := clamp_le (by omega)
  have h2 : clamp 0 64 (bitsOf v 16 8) ≤ 64 := clamp_le (by omega)
  have h3 : clamp 0 2 (bitsOf v 8 8) ≤ 2 := clamp_le (by omega)
  have h4 : clamp 0 120 (bitsOf v 0 8) ≤ 120 := clamp_le (by omega)
  have hword : (storedWord 0 v).toNat =
      (clamp 1 4 (bitsOf v 24 8) * 256 + clamp 0 64 (bitsOf v 16 8)) * 65536 +
        (clamp 0 2 (bitsOf v 8 8) * 256 + clamp 0 120 (bitsOf v 0 8)) := by
    rw [storedWord, if_pos rfl, halves, BitVec.toNat_ofNat, Nat.mod_eq_of_lt (by omega)]
  rw [bitsOf_eq (storedWord 0 v), hword]
  generalize clamp 0 64 (bitsOf v 16 8) = p at *
  rw [show ((clamp 1 4 (bitsOf v 24 8) * 256 + p) * 65536 +
    (clamp 0 2 (bitsOf v 8 8) * 256 + clamp 0 120 (bitsOf v 0 8))) / 2 ^ 16 % 2 ^ 8 = p by omega]
  exact clamp_eq_self (Nat.zero_le _) h2

/-- Without the key PARAM WRITE leaves the protected count (R154). -/
theorem runParamWrite_protectedCount (args : List Byte) (s : State) :
    (runParamWrite false args s).2.protectedCount = s.protectedCount := by
  rcases runParamWrite_cases false args s with h | ⟨-, -, hkey, h⟩
  · rw [h]
  · rw [h]
    by_cases hw : natAt args 0 = 0
    · rw [State.protectedCount, State.storeWord_param, if_pos hw.symm, hw, protected_storedWord, hkey hw rfl]
    · exact State.protectedCount_eq_of_param (by rw [State.storeWord_param, if_neg (Ne.symm hw)])

/-- The protected count outside a COLD reset and without the key. -/
theorem took_protectedCount {i : Instr} {s u : State} (h : Took i s u) (hkey : keyActive i = false)
    (hcold : makesCold i s = false) : u.protectedCount = s.protectedCount := by
  have same {ps : List Part} {u : State} (ho : Only ps s u) (hp : Part.params.isIn ps = false) :
      u.protectedCount = s.protectedCount :=
    State.protectedCount_eq_of_param (State.param_eq_of_params (ho .params hp) 0)
  cases h with
  | idle => rfl
  | command c l args hl =>
    by_cases hc : c = .paramWrite
    · subst hc
      have hsvc : l.svckey = false := (keyActive_of_lines hl).symm.trans hkey
      show (runParamWrite l.svckey args s).2.protectedCount = _
      rw [hsvc]
      exact runParamWrite_protectedCount args s
    · exact same (runCommand_only c l args s) (by cases c <;> first | rfl | exact absurd rfl hc)
  | read c bytes m hr => exact same (endRead_only c bytes m s) (by cases c <;> first | rfl | exact nomatch hr)
  | event hi htaken =>
    by_cases hp : Part.params.isIn (eventParts i) = false
    · exact same (runEvent_only i s) hp
    · cases i
      case coldReset => exact nomatch hcold
      case retentionReset l b =>
        have hwarm : s.powerReturns l b = s.retentionReset l b := if_pos (by simpa [makesCold] using hcold)
        rw [show runEvent (.retentionReset l b) s = _ from hwarm]
        exact same (s.retentionReset_only l b) rfl
      all_goals exact absurd rfl hp

/-- Settles O56: the count by the one word it stands in, the slots because a lawful write of a protected one needs the key. -/
theorem protectedSlotsNeedTheKey : Obligations.ProtectedSlotsNeedTheKey := by
  intro i s t hkey hcold h
  refine ⟨?_, fun slot hslot => ?_⟩
  · obtain ⟨u, htook, hengine⟩ := exec_took i s t h
    exact (State.protectedCount_eq_of_param (State.param_eq_of_params (hengine.1 .params rfl) 0)).trans
      (took_protectedCount htook hkey hcold)
  · exact (exec_tenant hcold h slot).resolve_right fun hw => absurd (hkey.symm.trans (hw.key hslot)) nofun

end Sys2Proof.Machine
end

section
/-! The reads of the OFFICE port and READ STATE (R14, R19, R22, R59, R133, R155, R163, R167): what each samples, then the whole
frame that shifts it out. -/

namespace Sys2Proof.Machine

set_option Elab.async false -- one thread for the file, as in the tests: a thread for each theorem reaches the memory limit

/-! ### A whole read frame, by what is sampled -/

section
variable {s : State} {p : Port} {args : List Byte} {l : Lines}

/-- A whole read frame whose sampling is refused (R170). -/
theorem exec_read_refused (c : Command) (h : s.takes p) (hr : isRead c = true) (hp : permitted c p = true)
    (ha : argumentBytes c s.loader args ≤ args.length) {r : ResultCode} (hm : sampleOf c args s = .refuse r) (hne : r ≠ .ok) :
    exec (frameInstr c (whole p args l)) s =
      .next { s.close p r (s.reply p (freeBytes s.fills (argumentBytes c s.loader args - 1)) (args.length + 1)) with
        fills := s.fills + (argumentBytes c s.loader args - 1) } := by
  rw [exec_read c h hr hp ha, hm]
  simp only [Sample.refuse, hne, if_false, List.append_nil]

/-- A whole read frame that shifts out `data`, of a read whose end changes nothing (R169, R170). -/
theorem exec_read_given (c : Command) (h : s.takes p) (hr : isRead c = true) (hp : permitted c p = true)
    (ha : argumentBytes c s.loader args ≤ args.length) {data : List Byte} (hm : sampleOf c args s = .give data)
    (hc : c ≠ .logRead) :
    exec (frameInstr c (whole p args l)) s =
      .next { s.close p .ok (s.reply p (freeBytes s.fills (argumentBytes c s.loader args - 1) ++ data) (args.length + 1)) with
        fills := s.fills + (argumentBytes c s.loader args - 1) } := by
  have hend : endRead c (args.length + 1) (.give data) s = s := by
    cases c
    case logRead => exact absurd rfl hc
    all_goals rfl
  rw [exec_read c h hr hp ha, hm]
  simp only [Sample.give] at hend ⊢
  simp only [if_true, hend]

end

/-! ### The rights tables -/

/-- Settles O14: each read by what it samples. -/
theorem rightsTableReads : Obligations.RightsTableReads := by
  intro s l args h n
  refine ⟨?_, fun ha => ⟨Config.argumentFill s.fills, ?_⟩, fun ha => ?_⟩
  · cases hc : s.cursor with
    | none =>
      have hm : sampleTenantRead s = .refuse .noSelection := by rw [sampleTenantRead, hc]
      exact exec_read_refused .tenantRead h rfl rfl (Nat.zero_le _) hm nofun
    | some i =>
      have hm : sampleTenantRead s = .give (tenantBytes i (s.tenant i)) := by rw [sampleTenantRead, hc]
      exact exec_read_given .tenantRead h rfl rfl (Nat.zero_le _) hm nofun
  · split
    case isTrue hu => exact exec_read_refused .unitRead h rfl rfl ha (if_pos hu) nofun
    case isFalse hu =>
      refine (exec_read_given .unitRead h rfl rfl ha (if_neg hu) nofun).trans ?_
      cases harm : (s.unit (wordAt args 0)).arm <;> simp only [unitBytes, harm] <;> rfl
  · split
    case isTrue hp => exact exec_read_refused .profileRead h rfl rfl ha (if_pos hp) nofun
    case isFalse hp => exact exec_read_given .profileRead h rfl rfl ha (if_neg hp) nofun

/-! ### Roster, channels and parameters -/

/-- A timer as CHANNEL READ shifts it out: the time left, or FFFF where it is absent (R133). -/
theorem timerBytes_eq (now unit : Nat) (timer : Option Nat) :
    wordBytes ((timer.map (remainingUp now unit)).getD 0xFFFF) =
      match timer with
      | none => [0xFF, 0xFF]
      | some e => wordBytes ((e - now + (unit - 1)) / unit) := by
  cases timer with
  | none => exact (by decide : wordBytes 0xFFFF = [0xFF, 0xFF])
  | some e => rfl

/-- Settles O19: each read by what it samples. -/
theorem officeTableReads : Obligations.OfficeTableReads := by
  refine ⟨?_, ?_⟩ <;> intro s l args h ha
  · intro n
    refine ⟨Config.argumentFill s.fills, ?_⟩
    split
    case isTrue hn => exact exec_read_refused .rosterRead h rfl rfl ha (if_pos hn) nofun
    case isFalse hn =>
      refine (exec_read_given .rosterRead h rfl rfl ha (if_neg hn) nofun).trans ?_
      rfl
  intro n c x left
  constructor
  · split
    case isTrue hc => exact exec_read_refused .channelRead h rfl rfl ha (if_pos hc) nofun
    case isFalse hc =>
      refine (exec_read_given .channelRead h rfl rfl ha (if_neg hc) nofun).trans ?_
      simp only [channelBytes, timerBytes_eq]
      cases hg : (s.channel c).gateOpen <;> cases he : (s.channel c).egress <;> rfl
  · split
    case isTrue hw => exact exec_read_refused .paramRead h rfl rfl ha (if_pos hw) nofun
    case isFalse hw => exact exec_read_given .paramRead h rfl rfl ha (if_neg hw) nofun

/-! ### READ STATE (R163) -/

/-- Five flags from bit 7 down. -/
theorem flags_bits : ∀ a b c d e : Bool,
    let x := byteOf ((if a then 0x80 else 0) + (if b then 0x40 else 0) + (if c then 0x20 else 0) + (if d then 0x10 else 0) +
      if e then 0x08 else 0)
    x.getLsbD 7 = a ∧ x.getLsbD 6 = b ∧ x.getLsbD 5 = c ∧ x.getLsbD 4 = d ∧ x.getLsbD 3 = e ∧ x.toNat % 8 = 0 := by
  decide

/-- The flags of READ STATE, bit by bit (11.8). -/
theorem stateFlags_bits (s : State) :
    (stateFlags s).getLsbD 7 = (s.control.mode == .fallback) ∧ (stateFlags s).getLsbD 6 = s.control.fireLatch ∧
      (stateFlags s).getLsbD 5 = s.control.fireLive ∧ (stateFlags s).getLsbD 4 = s.control.tableFault ∧
      (stateFlags s).getLsbD 3 = s.window.isSome ∧ (stateFlags s).toNat % 8 = 0 := by
  have h := flags_bits (s.control.mode == .fallback) s.control.fireLatch s.control.fireLive s.control.tableFault
    s.window.isSome
  simp only [beq_iff_eq] at h
  exact h

/-- The loader byte of READ STATE, while the buffer is within its capacity (11.8). -/
theorem loaderByte_toNat (l : Loader) (h : l.buffer.length ≤ 4) :
    (loaderByte l).toNat = (if l.active then 128 else 0) + 16 * l.buffer.length + if l.kind = .tenant then 0 else 1 := by
  unfold loaderByte byteOf
  rw [BitVec.toNat_ofNat, Nat.mod_eq_of_lt]
  · cases l.kind <;> rfl
  · cases l.kind <;> simp only [LoadKind.code] <;> split <;> omega

theorem fieldByte_graceCounter (p : Phase) :
    fieldByte p.graceCounter = match p with
      | .closing g => byteOf g
      | _ => 0xFF := by
  cases p <;> rfl

/-- A whole READ STATE frame. -/
theorem exec_readState {s : State} {p : Port} (h : s.takes p) (l : Lines) (args : List Byte) :
    exec (.readState (whole p args l)) s = .next (s.close p .ok (s.reply p (stateBytes s) (args.length + 1))) :=
  (exec_read_given .readState h rfl rfl (Nat.zero_le _) (data := stateBytes s) rfl nofun).trans
    (congrArg Host.Outcome.next (s.frameDone_zero p .ok _))

/-- Settles O43: READ STATE by what it samples, its flags bit by bit. -/
theorem readState : Obligations.ReadState := by
  intro s p l args h
  refine ⟨stateFlags s, loaderByte s.loader, ?_, stateFlags_bits s, loaderByte_toNat s.loader⟩
  rw [exec_readState h, stateBytes, timerBytes_eq, fieldByte_graceCounter]
  rfl

/-! ### LOG READ (R164, R165, R167) -/

/-- One append (R165). -/
theorem Log.append_eq (g : Log) (minute : Nat) (e : Event) :
    g.append minute e =
      { next := g.next + 1
        records := (if 512 ≤ g.records.length then g.records.tail else g.records) ++
          [{ seq := g.next, minute, gap := decide (512 ≤ g.records.length), event := e }]
        discards := g.discards + if 512 ≤ g.records.length then 1 else 0 } := by
  by_cases h : 512 ≤ g.records.length <;> simp [Log.append, Config.logCapacity, h]

/-- The records LOG READ samples (R167). -/
theorem sampleLogRead_records (args : List Byte) (s : State) :
    (sampleLogRead args s).records = if natAt args 0 = 0 ∨ 16 < natAt args 0 then [] else s.log.records.take (natAt args 0) := by
  unfold sampleLogRead
  dsimp only
  split <;> rfl

/-- The end of a LOG READ frame: what is removed of the records sampled (R167). -/
theorem State.removeRead_eq (s : State) (m : Sample) (bytes : Nat) :
    s.removeRead m bytes =
      { s with log := { s.log with
          records := s.log.records.drop (min ((bytes - 2) / 10) m.records.length - (s.log.discards - m.discards)) } } := by
  simp only [State.removeRead, wholeRecords, List.length_take]
  rfl

/-- The end of a LOG READ frame of several events. -/
theorem exec_logRead_closing {s : State} {l : Lines} {args more : List Byte} {st : Byte} {m : Sample} (ha : 1 ≤ args.length)
    (h : s.takes .office)
    (hm : s.office.assembly = some { wire := commandCode .logRead :: args, status := st, sample := some m }) :
    exec (.logRead { port := .office, bytes := more, part := .closing, lines := l }) s =
      .next ((if m.result = .ok then s.removeRead m (args.length + more.length + 1) else s).close .office m.result
        ((st :: byteOf s.office.lastResult.code :: (m.data ++ List.replicate (args.length + more.length + 1) 0xFF)).take
          (args.length + more.length + 1))) := by
  refine (exec_closing_sampled (c := .logRead) h rfl rfl ha hm).trans ?_
  rfl

/-- Dropping what is read of the records that stand, where `gone` of them are gone already. -/
theorem drop_gone_read {α : Type} (l : List α) (gone read : Nat) :
    (l.drop gone).drop (read - gone) = l.drop (max gone read) := by
  rw [List.drop_drop]
  congr 1
  omega

/-- Settles O44: the append, the whole frame, and the end of a frame of several events after any run of appends. -/
theorem logAppendAndRead : Obligations.LogAppendAndRead := by
  refine ⟨fun s e => ?_, ?_, ?_, ?_⟩
  · rw [State.append_eq, Log.append_eq]
  · intro s l args h ha k n
    split
    case isTrue hn => exact exec_read_refused .logRead h rfl rfl ha (if_pos hn) nofun
    case isFalse hn =>
      have hs : sampleOf .logRead args s = sampleLogRead args s := rfl
      refine (exec_read .logRead h rfl rfl ha).trans ?_
      rw [hs, sampleLogRead, if_neg hn]
      have hdrop : s.log.records.drop (min ((k - 2) / 10) (s.log.records.take n).length - (s.log.discards - s.log.discards)) =
          s.log.records.drop (min n ((k - 2) / 10)) := by
        rw [List.length_take, Nat.sub_self, Nat.sub_zero]
        rcases Nat.le_total (min n ((k - 2) / 10)) s.log.records.length with hle | hle
        · congr 1; omega
        · rw [List.drop_eq_nil_of_le hle, List.drop_eq_nil_of_le (by omega)]
      simp only [if_true, endRead, State.removeRead_eq]
      rw [hdrop]
      rfl
  · intro s l args more st m ha k
    refine ⟨sampleLogRead_records args s, fun h hm => ?_⟩
    refine (exec_logRead_closing ha h hm).trans ?_
    rw [State.removeRead_eq]
  · intro s t l args more st es ha hpos hmax hlog h hm
    obtain ⟨new, hnew, -, -, hrecords, hgone⟩ := Log.appends_eq s.log es
    rw [← hlog] at hrecords hgone
    refine ⟨new, hnew, hgone, hrecords, ?_⟩
    refine ⟨_, exec_logRead_closing ha h hm, ?_⟩
    have hs : sampleOf .logRead args s = sampleLogRead args s := rfl
    have hok : (sampleLogRead args s).result = .ok := by
      rw [sampleLogRead, if_neg (by omega)]
    have hdiscards : (sampleLogRead args s).discards = s.log.discards := by
      rw [sampleLogRead, if_neg (by omega)]
    rw [hs, if_pos hok, State.removeRead_eq, sampleLogRead_records, if_neg (by omega), hdiscards]
    refine ⟨rfl, ?_⟩
    show t.log.records.drop _ = _
    rw [show args.length + more.length + 1 - 2 = args.length + more.length - 1 by omega]
    generalize min ((args.length + more.length - 1) / 10) (s.log.records.take (natAt args 0)).length = read
    rw [hrecords, drop_gone_read]

end Sys2Proof.Machine
end

section
/-! The edits of the rights tables and the arming of units (chapters 1 and 6): each operation said once as what it writes and
records, each command by its checks in order, then the frame that carries it. -/

namespace Sys2Proof.Machine

set_option Elab.async false -- one thread for the file, as in the tests: a thread for each theorem reaches the memory limit

/-! ### The target state of a unit (R105) -/

/-- The target state of a unit with record `x`: `State.targetState` reads no other unit. -/
def State.targetOf (s : State) (x : UnitRecord) : ArmState :=
  match x.tenant with
  | none => .vacant
  | some t =>
    if (s.tenant t).state ≠ .overlocked then
      if s.isPresent t then .disarmed else .armed
    else if s.isPresent t && x.visit then .disarmed else .overlock

theorem State.targetState_eq (s : State) (u : Nat) : s.targetState u = s.targetOf (s.unit u) := rfl

theorem State.isPresent_congr {s t : State} (h : t.roster = s.roster) (i : Nat) : t.isPresent i = s.isPresent i := by
  unfold State.isPresent State.presence
  rw [h]

theorem State.targetOf_congr {s t : State} (ht : ∀ i, (t.tenant i).state = (s.tenant i).state) (hr : t.roster = s.roster)
    (x : UnitRecord) : t.targetOf x = s.targetOf x := by
  unfold State.targetOf
  simp only [ht, State.isPresent_congr hr]

theorem State.isTarget_iff (s : State) (u : Nat) (a : ArmState) : s.isTarget u a ↔ a = s.targetState u := by
  rw [State.targetState_eq]
  unfold State.isTarget State.targetOf
  cases (s.unit u).tenant with
  | none => rfl
  | some i =>
    dsimp only
    by_cases ho : (s.tenant i).state = .overlocked
    · cases s.isPresent i <;> cases (s.unit u).visit <;> simp [ho]
    · cases s.isPresent i <;> simp [ho]

theorem UnitRecord.toArm_of_ne (x : UnitRecord) {a : ArmState} (h : a ≠ .disarmed) : x.toArm a = { x with arm := a } := by
  simp [UnitRecord.toArm, h]

/-! ### Contact reports, acknowledgements and service (R107, R111, R113) -/

theorem contactOf_byteAt (args : List Byte) (i : Nat) :
    contactOf (byteAt args i) = if 2 ≤ natAt args i then none else some (if natAt args i = 0 then .closed else .opened) := by
  show contactOf (byteAt args i) = if 2 ≤ (byteAt args i).toNat then _ else some (if (byteAt args i).toNat = 0 then _ else _)
  unfold contactOf
  match (byteAt args i).toNat with
  | 0 => rfl
  | 1 => rfl
  | n + 2 => simp

theorem settingOf_byteAt (args : List Byte) (i : Nat) :
    settingOf (byteAt args i) = if 2 ≤ natAt args i then none else some (decide (natAt args i = 1)) := by
  show settingOf (byteAt args i) = if 2 ≤ (byteAt args i).toNat then _ else some (decide ((byteAt args i).toNat = 1))
  unfold settingOf
  match (byteAt args i).toNat with
  | 0 => rfl
  | 1 => rfl
  | n + 2 => simp

/-- UNIT CONTACT, by its checks (R107). -/
theorem runUnitContact_eq (args : List Byte) (s : State) :
    runUnitContact args s =
      if 3072 ≤ wordAt args 0 ∨ 2 ≤ natAt args 2 then (.badArgument, s)
      else (.ok, s.contactReport (wordAt args 0) (if natAt args 2 = 0 then .closed else .opened)) := by
  rw [runUnitContact, contactOf_byteAt]
  by_cases hvalue : 2 ≤ natAt args 2
  · simp [hvalue]
  · simp only [hvalue, if_false, or_false, answer_cons, answer_nil, decide_eq_true_eq]

/-- Settles O20: the answer of the block by its checks, the report by the value it carries. -/
theorem unitContactReport : Obligations.UnitContactReport := by
  intro s l args h ha u x
  refine (exec_fieldWrite .unitContact h nofun rfl rfl ha (runUnitContact_eq args s)).trans ?_
  split
  case isTrue => rfl
  case isFalse =>
    split
    case isTrue => rw [State.contactReport_eq _ _ .closed nofun]; rfl
    case isFalse => rw [State.contactReport_eq _ _ .opened nofun]; rfl

/-- UNIT ACK at a unit that exists, by its arm state (R111). -/
theorem runUnitAck_noAlarm {args : List Byte} {s : State} (hu : wordAt args 0 < 3072)
    (hno : ∀ c, (s.unit (wordAt args 0)).arm ≠ .alarm c) : runUnitAck args s = (.state, s) := by
  rw [runUnitAck]
  rw [if_neg (Nat.not_le.2 hu)]
  split
  case h_1 c hc => exact absurd hc (hno c)
  case h_2 => rfl

theorem runUnitAck_alarm {args : List Byte} {s : State} {c : AlarmCause} (hu : wordAt args 0 < 3072)
    (hc : (s.unit (wordAt args 0)).arm = .alarm c) :
    runUnitAck args s =
      if (s.unit (wordAt args 0)).contact = .opened then (.contactOpen, s)
      else (.ok, (s.setArm (wordAt args 0) (s.targetState (wordAt args 0))).append
        (.unitAck c (wordAt args 0) (s.unit (wordAt args 0)).tenant)) := by
  rw [runUnitAck]
  rw [if_neg (Nat.not_le.2 hu), hc]

/-- UNIT SERVICE, by its checks (R113). -/
theorem runUnitService_eq (args : List Byte) (s : State) :
    runUnitService args s =
      if 3072 ≤ wordAt args 0 ∨ 2 ≤ natAt args 2 then (.badArgument, s)
      else if (natAt args 2 = 1 ↔ (s.unit (wordAt args 0)).arm = .service) then (.state, s)
      else (.ok, if natAt args 2 = 1 then s.setArm (wordAt args 0) .service else s.endService (wordAt args 0)) := by
  have hsame : (decide (natAt args 2 = 1) == ((s.unit (wordAt args 0)).arm == .service)) = true ↔
      (natAt args 2 = 1 ↔ (s.unit (wordAt args 0)).arm = .service) := by
    rw [beq_iff_eq, Bool.eq_iff_iff, decide_eq_true_iff, beq_iff_eq]
  rw [runUnitService, settingOf_byteAt]
  by_cases hvalue : 2 ≤ natAt args 2
  · simp [hvalue]
  · simp only [hvalue, if_false, or_false, answer_cons, answer_nil, decide_eq_true_eq, hsame]

/-- What a unit that leaves SERVICE goes to (R113): its target state, or the alarm of a target other than DISARMED. -/
theorem State.endService_eq (s : State) (u : Nat) :
    s.endService u =
      if (s.unit u).contact = .opened then
        match s.targetState u with
        | .vacant => (s.setUnit u { s.unit u with arm := .alarm .openedVacant }).append
            (.unitAlarm .openedVacant u (s.unit u).tenant)
        | .armed => (s.setUnit u { s.unit u with arm := .alarm .openedArmed }).append
            (.unitAlarm .openedArmed u (s.unit u).tenant)
        | .overlock => (s.setUnit u { s.unit u with arm := .alarm .openedOverlocked }).append
            (.unitAlarm .openedOverlocked u (s.unit u).tenant)
        | a => s.setUnit u ((s.unit u).toArm a)
      else s.setUnit u ((s.unit u).toArm (s.targetState u)) := by
  unfold State.endService
  simp only [State.raiseAlarm_eq, State.setArm_eq]
  cases s.targetState u with
  | vacant | armed | overlock => rfl
  | disarmed | alarm | service => exact (ite_self _).symm

/-- Settles O21: each command by its checks in order; `isTarget` names the target state. -/
theorem unitAckAndService : Obligations.UnitAckAndService := by
  refine ⟨?_, ?_⟩
  · intro s l args h ha n u
    have hexec {e : ResultCode × State} (he : runUnitAck args s = e) :
        exec (.unitAck (whole .office args l)) s = .next (s.taken e.2 .office e.1 n) := exec_officeWrite .unitAck h rfl rfl ha he
    refine ⟨fun hu => hexec (if_pos hu), fun hu hno => hexec (runUnitAck_noAlarm hu hno), fun c hu hc => ⟨fun hopen => ?_, ?_⟩⟩
    · exact hexec ((runUnitAck_alarm hu hc).trans (if_pos hopen))
    · intro hshut a htarget
      rw [hexec ((runUnitAck_alarm hu hc).trans (if_neg hshut)), (s.isTarget_iff u a).1 htarget, State.setArm_eq]
  · intro s l args h ha n u x
    have hexec {e : ResultCode × State} (he : runUnitService args s = e) :
        exec (.unitService (whole .office args l)) s = .next (s.taken e.2 .office e.1 n) :=
      exec_officeWrite .unitService h rfl rfl ha he
    rw [hexec (runUnitService_eq args s)]
    refine ⟨fun hbad => ?_, fun hu hon => ?_, fun hu hoff hserve => ?_, fun hu hoff hserve a htarget => ?_⟩
    · rw [if_pos hbad]
      rfl
    · rw [if_neg (by omega)]
      simp only [hon, true_iff, if_true, State.setArm_eq, UnitRecord.toArm_of_ne _ (show ArmState.service ≠ .disarmed from nofun)]
      split <;> rfl
    · rw [if_neg (by omega), if_pos (by simp [hoff]; exact hserve)]
      rfl
    · rw [if_neg (by omega), if_neg (by simp [hoff]; exact hserve), (s.isTarget_iff u a).1 htarget]
      simp only [hoff, Nat.zero_ne_one, if_false, State.endService_eq]
      rfl

/-! ### The edits of the cursor slot, by their checks (R10) -/

section
variable {s : State} {svckey : Bool} {i : Nat} {rest : List (Bool × ResultCode)} {effect : State}

theorem answer_edit_unselected (hc : s.cursor = none) :
    answer (s.editChecks svckey ++ rest) s effect = (.noSelection, s) := by
  simp [State.editChecks, hc]

theorem answer_edit_selected (hc : s.cursor = some i) :
    answer (s.editChecks svckey ++ s.inUseCheck :: rest) s effect =
      if s.loader.active = true ∧ s.loader.kind = .tenant then (.busy, s)
      else if i < s.protectedCount ∧ svckey = false then (.isProtected, s)
      else if (s.tenant i).state = .free then (.state, s)
      else answer rest s effect := by
  simp only [State.editChecks, State.inUseCheck, State.cursorSlot_some hc, hc, List.cons_append, List.nil_append, answer_cons,
    State.loading_iff, State.isProtected, Option.isNone_some, Bool.false_eq_true, if_false, Bool.and_eq_true,
    decide_eq_true_eq, Bool.not_eq_true', beq_iff_eq]

/-- An edit of a slot in use that nothing of R10's first five checks refuses. -/
theorem answer_edit_allowed (hc : s.cursor = some i) (hidle : ¬(s.loader.active = true ∧ s.loader.kind = .tenant))
    (hkey : s.protectedCount ≤ i ∨ svckey = true) (huse : (s.tenant i).state ≠ .free) :
    answer (s.editChecks svckey ++ s.inUseCheck :: rest) s effect = answer rest s effect := by
  have hopen : ¬(i < s.protectedCount ∧ svckey = false) := by
    rintro ⟨hlt, hoff⟩
    rcases hkey with hle | hon
    · omega
    · exact absurd (hoff.symm.trans hon) nofun
  rw [answer_edit_selected hc, if_neg hidle, if_neg hopen, if_neg huse]

end

/-- The checks that follow those every edit of a slot in use makes (R15 to R18). -/
def editRest (c : Command) (s : State) (u i : Nat) : List (Bool × ResultCode) :=
  match c with
  | .tenantFree => [(s.isPresent i, .onSite)]
  | .assignUnit => [((s.unit u).tenant == some i, .duplicate), ((s.unit u).tenant.isSome, .unitTaken),
      (decide (Config.unitsPerTenant ≤ (s.tenant i).units.length), .listFull)]
  | .releaseUnit => [(!(s.tenant i).units.contains u, .notFound)]
  | _ => []

/-- An argument of one of the four edits that is refused before the cursor is looked at. -/
def editBad (c : Command) (args : List Byte) : Prop :=
  (c = .tenantState ∧ newStateOf (byteAt args 0) = none) ∨ ((c = .assignUnit ∨ c = .releaseUnit) ∧ 3072 ≤ wordAt args 0)

section
variable {c : Command} {l : Lines} {args : List Byte} {s : State}

theorem runEdit_bad (h : editBad c args) : runCommand c l args s = (.badArgument, s) := by
  rcases h with ⟨rfl, hnew⟩ | ⟨rfl | rfl, hu⟩
  · show runTenantState l.svckey args s = _
    rw [runTenantState, hnew]
  · exact (answer_cons _ _ _ _ _).trans (if_pos (decide_eq_true hu))
  · exact (answer_cons _ _ _ _ _).trans (if_pos (decide_eq_true hu))

/-- The four edits of a slot in use are alike up to the checks of their own. -/
theorem runEdit_eq (hc : c = .tenantState ∨ c = .tenantFree ∨ c = .assignUnit ∨ c = .releaseUnit) (h : ¬editBad c args) :
    ∃ effect, runCommand c l args s =
      answer (s.editChecks l.svckey ++ s.inUseCheck :: editRest c s (wordAt args 0) s.cursorSlot) s effect := by
  rcases hc with rfl | rfl | rfl | rfl
  · cases hnew : newStateOf (byteAt args 0) with
    | none => exact absurd (.inl ⟨rfl, hnew⟩) h
    | some new =>
      refine ⟨(s.setTenant s.cursorSlot { s.tenant s.cursorSlot with state := new }).overlockChange s.cursorSlot
        (s.tenant s.cursorSlot).state new, ?_⟩
      show runTenantState l.svckey args s = _
      rw [runTenantState, hnew]
      rfl
  · exact ⟨_, rfl⟩
  · have hu : ¬3072 ≤ wordAt args 0 := fun hu => h (.inr ⟨.inl rfl, hu⟩)
    exact ⟨_, (answer_cons _ _ _ _ _).trans (if_neg (by simpa using hu))⟩
  · have hu : ¬3072 ≤ wordAt args 0 := fun hu => h (.inr ⟨.inr rfl, hu⟩)
    exact ⟨_, (answer_cons _ _ _ _ _).trans (if_neg (by simpa using hu))⟩

end

/-- Settles O12: the four commands share all checks but their last, so one case split over the checks serves them all. -/
theorem tenantEditRefusals : Obligations.TenantEditRefusals := by
  intro s l args c h hc ha u bad refused
  have hread : isRead c = false := by rcases hc with rfl | rfl | rfl | rfl <;> rfl
  have hperm : permitted c .office = true := by rcases hc with rfl | rfl | rfl | rfl <;> rfl
  have hrefused {r : ResultCode} (he : runCommand c l args s = (r, s)) : refused r := exec_officeWrite c h hread hperm ha he
  refine ⟨fun hbad => hrefused (runEdit_bad hbad), fun hbad hcursor => ?_, fun i hbad hcursor => ?_⟩
  · obtain ⟨effect, he⟩ := runEdit_eq (l := l) (s := s) hc hbad
    exact hrefused (he.trans (answer_edit_unselected hcursor))
  · obtain ⟨effect, he⟩ := runEdit_eq (l := l) (s := s) hc hbad
    rw [State.cursorSlot_some hcursor] at he
    replace he := he.trans (answer_edit_selected hcursor)
    refine ⟨fun hbusy => hrefused (he.trans (if_pos hbusy)), fun hidle => ?_⟩
    rw [if_neg hidle] at he
    refine ⟨fun hprotected => hrefused (he.trans (if_pos hprotected)), fun hopen => ?_⟩
    rw [if_neg hopen] at he
    refine ⟨fun hfree => hrefused (he.trans (if_pos hfree)), fun huse => ?_⟩
    rw [if_neg huse] at he
    refine ⟨?_, ?_, ?_, ?_, ?_⟩
    · rintro rfl hpresent
      exact hrefused (he.trans (by simp [editRest, hpresent]))
    · rintro rfl hown
      exact hrefused (he.trans (by simp [editRest, show (s.unit (wordAt args 0)).tenant = some i from hown]))
    · rintro rfl ⟨j, hne, hother⟩
      exact hrefused (he.trans (by simp [editRest, show (s.unit (wordAt args 0)).tenant = some j from hother, hne]))
    · rintro rfl hnone hfull
      exact hrefused (he.trans (by
        simp [editRest, show (s.unit (wordAt args 0)).tenant = none from hnone, Config.unitsPerTenant, hfull]))
    · rintro rfl hmissing
      exact hrefused (he.trans (by simp [editRest, show wordAt args 0 ∉ (s.tenant i).units from hmissing]))

/-! ### The units' moves at a tenant state change (R112) -/

/-- The units of a tenant that becomes OVERLOCKED. -/
theorem State.overlockChange_enters (s : State) (i : Nat) {old new : TenantState} (hnew : new = .overlocked)
    (hold : old ≠ .overlocked) :
    let t := s.overlockChange i old new
    t = { s with units := t.units } ∧
      ∀ u, t.unit u =
        if u ∈ (s.tenant i).units ∧ (s.unit u).arm = .armed then { s.unit u with arm := .overlock } else s.unit u := by
  have ht : s.overlockChange i old new = (s.tenant i).units.foldl
      (fun s u => if (s.unit u).arm = .armed then s.setArm u .overlock else s) s := if_pos ⟨hnew, hold⟩
  obtain ⟨hframe, hunits⟩ := foldl_units (P := fun _ => True)
    (f := fun s u => if (s.unit u).arm = .armed then s.setArm u .overlock else s)
    (g := fun x => if x.arm = .armed then { x with arm := .overlock } else x) (fun _ _ _ => trivial)
    (fun x => by by_cases h : x.arm = .armed <;> simp [h]) (s.tenant i).units
    (fun a u _ _ => by by_cases h : (a.unit u).arm = .armed <;> simp [h, State.setArm_eq, UnitRecord.toArm_of_ne]) s trivial
  rw [ht]
  refine ⟨hframe, fun u => ?_⟩
  rw [hunits u]
  by_cases hu : u ∈ (s.tenant i).units <;> simp [hu]

/-- One unit that leaves OVERLOCK for its target state. -/
def State.relocked (s : State) (x : UnitRecord) : UnitRecord := if x.arm = .overlock then x.toArm (s.targetOf x) else x

theorem State.relocked_relocked (s : State) (x : UnitRecord) : s.relocked (s.relocked x) = s.relocked x := by
  by_cases h : x.arm = .overlock
  · by_cases ht : s.targetOf x = .overlock
    · have hx : s.relocked x = x := by
        rw [State.relocked, if_pos h, ht, UnitRecord.toArm_of_ne _ (a := .overlock) nofun, ← h]
      rw [hx, hx]
    · have harm : (s.relocked x).arm ≠ .overlock := by
        rw [State.relocked, if_pos h]
        exact ht
      rw [State.relocked, if_neg harm]
  · have hx : s.relocked x = x := if_neg h
    rw [hx, hx]

/-- The units of a tenant that leaves OVERLOCKED. -/
theorem State.overlockChange_leaves (s : State) (i : Nat) {old new : TenantState} (hold : old = .overlocked)
    (hnew : new ≠ .overlocked) :
    let t := s.overlockChange i old new
    t = { s with units := t.units } ∧
      ∀ u, t.unit u = if u ∈ (s.tenant i).units then s.relocked (s.unit u) else s.unit u := by
  have ht : s.overlockChange i old new = (s.tenant i).units.foldl
      (fun s u => if (s.unit u).arm = .overlock then s.setArm u (s.targetState u) else s) s :=
    (if_neg fun h => hnew h.1).trans (if_pos ⟨hold, hnew⟩)
  rw [ht]
  refine foldl_units (P := fun a => a.tenants = s.tenants ∧ a.roster = s.roster) (g := s.relocked) (fun _ _ h => h)
    s.relocked_relocked (s.tenant i).units (fun a u _ ⟨hten, hros⟩ => ?_) s ⟨rfl, rfl⟩
  have htarget : a.targetState u = s.targetOf (a.unit u) :=
    State.targetOf_congr (fun i => by rw [State.tenant_eq_of_tenants hten]) hros _
  by_cases h : (a.unit u).arm = .overlock
  · exact .inl (by simp only [h, if_true, State.relocked, State.setArm_eq, htarget])
  · exact .inr (by simp [h, State.relocked])

/-! ### Units released (R115) -/

/-- One unit released: its record, and the alarm where its shutter stands open. -/
theorem State.releaseUnit_eq (s : State) (u : Nat) :
    s.releaseUnit u = (s.setUnit u (s.unit u).freed).logged ((s.unit u).freedEvents u) := by
  unfold State.releaseUnit State.releaseArming UnitRecord.freed UnitRecord.freedEvents
  cases hstays : (s.unit u).arm.stays with
  | true => simp [hstays]
  | false =>
    by_cases hopen : (s.unit u).contact = .opened
    · simp [hstays, hopen, State.raiseAlarm_eq]
    · simp [hstays, hopen, State.setArm_eq, UnitRecord.toArm]

/-- The units of a list without repetition released one after another, in terms of the state before the first. -/
theorem State.releaseUnits_eq (s : State) (us : List Nat) (hn : us.Nodup) :
    let t := us.foldl State.releaseUnit s
    t = { s.logged (us.flatMap fun u => (s.unit u).freedEvents u) with units := t.units } ∧
      ∀ v, t.unit v = if v ∈ us then (s.unit v).freed else s.unit v := by
  induction us using List.reverseRecOn with
  | nil => exact ⟨rfl, by simp⟩
  | append_singleton us u ih =>
    obtain ⟨hus, -, hdisjoint⟩ := List.nodup_append.1 hn
    have hu : u ∉ us := fun h => hdisjoint u h u (List.mem_singleton_self u) rfl
    obtain ⟨hframe, hunits⟩ := ih hus
    intro t
    have ht : t = (us.foldl State.releaseUnit s).releaseUnit u := by simp [t]
    generalize us.foldl State.releaseUnit s = a at *
    have hunit : a.unit u = s.unit u := by rw [hunits, if_neg hu]
    rw [State.releaseUnit_eq, hunit] at ht
    refine ⟨?_, fun v => ?_⟩
    · calc t = { a.logged ((s.unit u).freedEvents u) with units := t.units } := by
            rw [ht, State.setUnit, State.logged_units]
        _ = _ := by
            rw [hframe, State.logged_units, List.flatMap_append, State.logged_append, List.flatMap_singleton]
    · rw [ht, State.logged_frame]
      show (a.setUnit u (s.unit u).freed).unit v = _
      rw [State.setUnit_unit, hunits]
      by_cases hv : v = u <;> simp [hv]

/-- Settles O10: each command's effect where its checks pass, its units by the moves of R112 and R115. -/
theorem tenantStateAndFreeTaken : Obligations.TenantStateAndFreeTaken := by
  refine ⟨fun s l args i new h ha hnew hc hidle hkey huse hpaired => ?_, fun s l args i h hc hidle hkey huse habsent hn => ?_⟩
  · let s1 := s.setTenant i { s.tenant i with state := new }
    have hrun : runTenantState l.svckey args s = (.ok, s1.overlockChange i (s.tenant i).state new) := by
      rw [runTenantState, hnew]
      refine (answer_edit_allowed hc hidle hkey huse).trans ?_
      rw [State.cursorSlot_some hc]
      rfl
    refine ⟨_, exec_officeWrite .tenantState h rfl rfl ha hrun, ?_⟩
    have hten : s1.tenant i = { s.tenant i with state := new } := by simp [s1]
    have hunit (u : Nat) : s1.unit u = s.unit u := rfl
    dsimp only
    by_cases hover : new = .overlocked
    · by_cases hold : (s.tenant i).state = .overlocked
      · have ht : s1.overlockChange i (s.tenant i).state new = s1 := by
          rw [State.overlockChange, if_neg fun h => h.2 hold, if_neg fun h => h.2 hover]
        rw [ht]
        exact ⟨rfl, fun u => by simp [hold, hover, hunit]⟩
      · obtain ⟨hframe, hunits⟩ := s1.overlockChange_enters i hover hold
        refine ⟨hframe, fun u => ?_⟩
        rw [hunits, hten, hunit]
        simp [hover, hold]
    · by_cases hold : (s.tenant i).state = .overlocked
      · obtain ⟨hframe, hunits⟩ := s1.overlockChange_leaves i hold hover
        refine ⟨hframe, fun u => ?_⟩
        rw [hunits, hten, hunit]
        by_cases hu : u ∈ (s.tenant i).units
        · have htarget : s1.targetOf (s.unit u) = if s.isPresent i = true then .disarmed else .armed := by
            rw [State.targetOf, hpaired u hu]
            dsimp only
            rw [hten, if_pos hover]
            rfl
          simp [hover, hold, hu, State.relocked, htarget]
        · simp [hu]
      · have ht : s1.overlockChange i (s.tenant i).state new = s1 := by
          rw [State.overlockChange, if_neg fun h => hover h.1, if_neg fun h => hold h.1]
        rw [ht]
        exact ⟨rfl, fun u => by simp [hold, hover, hunit]⟩
  · have hrun : runTenantFree l.svckey s = (.ok, s.freeTenant i) := by
      refine (answer_edit_allowed hc hidle hkey huse).trans ?_
      rw [State.cursorSlot_some hc]
      simp [habsent]
    obtain ⟨hframe, hunits⟩ :=
      (s.setTenant i { s.tenant i with state := .free, units := [] }).releaseUnits_eq (s.tenant i).units hn
    exact ⟨_, exec_officeWrite .tenantFree h rfl rfl (Nat.zero_le _) hrun, hframe, hunits⟩

/-! ### Units assigned and released by hand (R114, R18) -/

/-- The arming of a unit whose record `x` has just been written (R114): to its target state, unless it is in SERVICE or ALARM. -/
theorem State.setUnit_assignArming (s : State) (u : Nat) (x : UnitRecord) :
    (s.setUnit u x).assignArming u = s.setUnit u (if x.arm.stays then x else x.toArm (s.targetOf x)) := by
  have hx : (s.setUnit u x).unit u = x := by simp
  rw [State.assignArming, hx]
  cases x.arm.stays with
  | true => rfl
  | false => simp only [Bool.false_eq_true, if_false, State.setArm_eq, State.targetState_eq, hx, State.setUnit_setUnit]; rfl

/-- Settles O11: the two effects by the one unit each rewrites. -/
theorem assignAndReleaseUnitTaken : Obligations.AssignAndReleaseUnitTaken := by
  refine ⟨fun s l args i u h ha hu hlt hc hidle hkey huse hnone hroom => ?_,
    fun s l args i u h ha hu hlt hc hidle hkey huse hmem => ?_⟩
  · subst hu
    have hrun : runAssignUnit l.svckey args s = (.ok, s.assignUnit i (wordAt args 0)) := by
      rw [runAssignUnit, List.cons_append, answer_cons, if_neg (by simpa [Config.unitCount] using hlt)]
      refine (answer_edit_allowed hc hidle hkey huse).trans ?_
      rw [State.cursorSlot_some hc]
      simp [hnone, Config.unitsPerTenant, hroom]
    generalize wordAt args 0 = u at *
    let x := { s.unit u with tenant := some i }
    let a := if (s.unit u).arm.stays then (s.unit u).arm else s.targetOf x
    refine ⟨a, (exec_officeWrite .assignUnit h rfl rfl ha hrun).trans ?_, ?_⟩
    · have htarget : (s.setTenant i { s.tenant i with units := (s.tenant i).units ++ [u] }).targetOf x = s.targetOf x := by
        refine State.targetOf_congr (s := s) (t := s.setTenant i _) (fun j => ?_) rfl x
        rw [State.setTenant_tenant]
        split
        case isTrue hj => rw [hj]
        case isFalse => rfl
      have hrecord : (if x.arm.stays then x else x.toArm (s.targetOf x)) =
          { (s.unit u).toArm a with
            tenant := some i, visit := (s.unit u).visit || (!(s.unit u).arm.stays && a = .disarmed) } := by
        show (if (s.unit u).arm.stays then x else _) = _
        cases hstays : (s.unit u).arm.stays with
        | true => simp [x, hstays, UnitRecord.toArm, a]
        | false => simp [x, hstays, UnitRecord.toArm, a]
      have heffect : s.assignUnit i u =
          (s.setTenant i { s.tenant i with units := (s.tenant i).units ++ [u] }).setUnit u
            (if x.arm.stays then x else x.toArm (s.targetOf x)) := by
        rw [← htarget]
        exact State.setUnit_assignArming _ u x
      rw [heffect, hrecord]
    · split
      case isTrue hstays => exact if_pos hstays
      case isFalse hstays =>
        rw [State.isTarget_iff, State.targetState_eq, State.setUnit_unit, if_pos rfl]
        exact (if_neg hstays).trans (State.targetOf_congr (s := s) (t := s.setUnit u x) (fun _ => rfl) rfl x).symm
  · subst hu
    have hrun : runReleaseUnit l.svckey args s =
        (.ok, (s.setTenant i { s.tenant i with units := (s.tenant i).units.filter (· != wordAt args 0) }).releaseUnit
          (wordAt args 0)) := by
      rw [runReleaseUnit, List.cons_append, answer_cons, if_neg (by simpa [Config.unitCount] using hlt)]
      refine (answer_edit_allowed hc hidle hkey huse).trans ?_
      rw [State.cursorSlot_some hc]
      simp [hmem]
    have hfilter : (s.tenant i).units.filter (· != wordAt args 0) = (s.tenant i).units.filter fun x => x ≠ wordAt args 0 :=
      List.filter_congr fun x _ => by simp [bne, beq_eq_decide]
    refine (exec_officeWrite .releaseUnit h rfl rfl ha hrun).trans ?_
    rw [State.releaseUnit_eq, hfilter]
    rfl

/-! ### PRESENCE REMOVE and OVERSTAY ACK (R57, R56) -/

/-- Settles O18: each command by its checks; the removal is an exit's roster change and hand-off with its own record. -/
theorem presenceRemoveAndOverstayAck : Obligations.PresenceRemoveAndOverstayAck := by
  intro s l args h ha n slot
  have hremove {e : ResultCode × State} (he : runPresenceRemove args s = e) :
      exec (.presenceRemove (whole .office args l)) s = .next (s.taken e.2 .office e.1 n) :=
    exec_officeWrite .presenceRemove h rfl rfl ha he
  have hack {e : ResultCode × State} (he : runOverstayAck args s = e) :
      exec (.overstayAck (whole .office args l)) s = .next (s.taken e.2 .office e.1 n) :=
    exec_officeWrite .overstayAck h rfl rfl ha he
  refine ⟨fun hbad => ⟨hremove (if_pos hbad), hack (if_pos hbad)⟩, fun hslot habsent => ?_, fun p hslot hp => ?_⟩
  · have hnone : s.presence slot = none := by simpa [State.isPresent] using habsent
    refine ⟨hremove (e := (.notFound, s)) ((if_neg (Nat.not_le.2 hslot)).trans ?_),
      hack (e := (.notFound, s)) ((if_neg (Nat.not_le.2 hslot)).trans ?_)⟩
    · rw [hnone]
    · rw [hnone]
  · have hps : p.slot = slot := by simpa using List.find?_some hp
    refine ⟨fun hn => ⟨s.removeByHand p, hremove (e := (.ok, s.removeByHand p)) ((if_neg (Nat.not_le.2 hslot)).trans ?_), ?_⟩,
      fun hon => ?_, fun hover => ?_⟩
    · rw [hp]
    · rw [← hps] at hn ⊢
      exact s.exit_completes p.slot (.presenceRemoved p.slot p.floor) hn
    · refine hack (e := (.state, s)) ((if_neg (Nat.not_le.2 hslot)).trans ?_)
      rw [hp]
      simp [hon]
    · refine hack (e := (.ok, s.setRoster (s.roster.map fun q =>
        if q.slot = slot then { q with state := .onSite, countdown := none } else q))) ((if_neg (Nat.not_le.2 hslot)).trans ?_)
      rw [hp]
      simp [hover, slot]

/-! ### Credentials and details as bytes (R3, R175) -/

theorem credentialOf_eq (b : Byte) (code : Word) :
    credentialOf b code =
      if b.toNat / 16 = 0 ∧ 4 ≤ b.toNat % 16 ∧ b.toNat % 16 ≤ 8 ∧ code.toNat < 10 ^ (b.toNat % 16) then
        some (.keypad (b.toNat % 16) code)
      else if b.toNat / 16 = 1 then some (.card code) else none := by
  unfold credentialOf
  dsimp only
  split
  case h_1 hk => simp [hk, and_assoc]
  case h_2 hk => simp [hk]
  case h_3 hzero hone => rw [if_neg fun h => hzero h.1, if_neg hone]

theorem byteOf_toNat {n : Nat} (h : n < 256) : (byteOf n).toNat = n := by
  rw [byteOf, BitVec.toNat_ofNat]
  exact Nat.mod_eq_of_lt h

/-- A valid credential reads back from its kind byte and code. -/
theorem credentialOf_kindByte {c : Credential} (h : c.valid = true) : credentialOf c.kindByte c.code = some c := by
  rw [credentialOf_eq]
  cases c with
  | keypad d code =>
    simp only [Credential.valid, Bool.and_eq_true, decide_eq_true_eq] at h
    obtain ⟨⟨hlow, hhigh⟩, hcode⟩ := h
    have hd : (Credential.keypad d code).kindByte.toNat = d := byteOf_toNat (by omega)
    have hmod : d % 16 = d := Nat.mod_eq_of_lt (by omega)
    rw [hd, hmod, if_pos ⟨by omega, hlow, hhigh, hcode⟩]
    rfl
  | card code =>
    have hk : (Credential.card code).kindByte.toNat = 16 := rfl
    rw [hk, if_neg fun h => absurd h.1 (by decide), if_pos rfl]
    rfl

/-- Four bytes, most significant first, spell the 32-bit value they are of. -/
theorem longAt_longBytes (a b c : Byte) (w : Word) (rest : List Byte) : longAt (a :: b :: c :: (longBytes w ++ rest)) 3 = w := by
  have hb (lo : Nat) : (w.extractLsb' lo 8).toNat = w.toNat / 2 ^ lo % 256 := bitsOf_eq w lo 8
  apply BitVec.eq_of_toNat_eq
  show (BitVec.ofNat 32 ((((w.extractLsb' 24 8).toNat * 256 + (w.extractLsb' 16 8).toNat) * 256 +
    (w.extractLsb' 8 8).toNat) * 256 + (w.extractLsb' 0 8).toNat)).toNat = w.toNat
  rw [BitVec.toNat_ofNat, hb, hb, hb, hb]
  have := w.isLt
  omega

theorem roleOf_roleByte (r : Role) (extended : Bool) :
    roleOf (roleByte r extended) = some r ∧ extendedOf (roleByte r extended) = extended := by
  cases r <;> cases extended <;> decide

/-- Settles O8: field by field. -/
theorem credentialsAndDetailsReadBack : Obligations.CredentialsAndDetailsReadBack := by
  refine ⟨credentialOf_eq, fun d rest hvalid hprofile => ?_⟩
  obtain ⟨hrole, hextended⟩ := roleOf_roleByte d.role d.extended
  have hlong : longAt (d.bytes ++ rest) 3 = d.credential.code := longAt_longBytes _ _ _ _ _
  have hprof : natAt (d.bytes ++ rest) 2 = d.profile := byteOf_toNat (by omega)
  have hbyte : byteAt (d.bytes ++ rest) 0 = roleByte d.role d.extended := rfl
  have hkind : byteAt (d.bytes ++ rest) 1 = d.credential.kindByte := rfl
  unfold detailsAt
  simp only [Nat.zero_add, hlong, hprof, hbyte, hkind, hrole, hextended, credentialOf_kindByte hvalid]
  exact if_pos hprofile

end Sys2Proof.Machine
end

section
/-! What every step keeps of the rights tables and of the arming of units (R1, R3, R7, R42, R104, R110). A write of one tenant's list
keeps the pairing where the units named on it and the units that name it agree; an operation of unit arming names no tenant, and
makes no unit DISARMED whose tenant is absent. -/

namespace Sys2Proof.Machine

set_option Elab.async false -- one thread for the file, as in the tests: a thread for each theorem reaches the memory limit

/-! ### Resets, by the state that is then restarted -/

/-- The state that a reset other than a COLD one restarts, with the power state it leaves (R160). -/
def State.warmStart (s : State) (p : Power) : State := s.dropWork.setPower p

theorem State.warmReset_eq (s : State) (cause : ResetCause) (l : Lines) :
    s.warmReset cause l = (s.warmStart s.power).restart cause l false := rfl

theorem State.retentionReset_eq (s : State) (l : Lines) (checkPasses : Bool) :
    s.retentionReset l checkPasses =
      (s.warmStart { s.power with main := true, retention := true }).restart .retention l !checkPasses := rfl

theorem State.pinReset_eq (s : State) (l : Lines) :
    s.pinReset l =
      if s.power.main then (s.warmStart { s.power with rst := false }).restart .pin l false
      else s.setPower { s.power with rst := false } := rfl

/-- The event is a reset. -/
def isReset : Instr → Bool
  | .pinReset _ | .coldReset _ _ | .retentionReset _ _ => true
  | _ => false

section
variable {P : State → Prop} {ps : List Part}

/-- What a reset leaves, by a law of what is restarted. -/
theorem runEvent_reset_keeps (hpower : ∀ s p, P s → P (s.setPower p)) (hwarm : ∀ s p, P s → P (s.warmStart p))
    (hcold : ∀ s, P s → P s.coldStart) (hrestart : ∀ s cause l f, P s → P (s.restart cause l f)) {i : Instr} {s : State}
    (hi : isReset i = true) (hs : P s) : P (runEvent i s) := by
  cases i
  case pinReset l =>
    show P (s.pinReset l)
    rw [State.pinReset_eq]
    split
    exacts [hrestart _ _ _ _ (hwarm _ _ hs), hpower _ _ hs]
  case coldReset l b =>
    show P (s.coldReset l b)
    rw [State.coldReset_eq]
    exact hrestart _ _ _ _ (hcold _ hs)
  case retentionReset l b =>
    show P (s.powerReturns l b)
    rw [State.powerReturns_eq]
    split
    · rw [State.retentionReset_eq]
      exact hrestart _ _ _ _ (hwarm _ _ hs)
    · rw [State.coldReset_eq]
      exact hrestart _ _ _ _ (hcold _ hs)
  all_goals exact nomatch hi

/-- A law that reads neither mode control nor the channels is kept by every step, where the two states that resets restart, and
every command and event that writes a part it reads and is no reset, keep it. -/
theorem exec_keeps_resets (hP : Reads P ps) (hcommand : ∀ c l args s, c ≠ .deviceReset → meets ps (commandParts c) = true →
      s.running = true → P s → P (runCommand c l args s).2)
    (hevent : ∀ i s, isReset i = false → meets ps (eventParts i) = true → P s → P (runEvent i s))
    (hwarm : ∀ s p, P s → P (s.warmStart p)) (hcold : ∀ s, P s → P s.coldStart)
    (hports : meets ps [.office, .ports] = false := by rfl) (hrestart : meets ps [.control, .channels] = false := by rfl)
    (hpower : meets ps [.power] = false := by rfl)
    (hread : ∀ c bytes m s, isRead c = true → meets ps (commandParts c) = true → P s → P (endRead c bytes m s) := by
      intro c bytes m s hr hm; cases c <;>
        first
        | exact absurd (show false = true from hr) Bool.false_ne_true
        | exact absurd (show false = true from hm) Bool.false_ne_true)
    (i : Instr) (s t : State) (hs : P s) (h : exec i s = .next t) : P t := by
  have restarted (s : State) (cause : ResetCause) (l : Lines) (f : Bool) (hs : P s) : P (s.restart cause l f) :=
    (s.restart_only cause l f).keeps hP hrestart hs
  refine exec_keeps hP hports (fun c l args s hm hrun hs => ?_) hread (fun i s hm hs => ?_) i s t hs h
  · by_cases hc : c = .deviceReset
    · subst hc
      show P (s.warmReset .command l)
      rw [State.warmReset_eq]
      exact restarted _ _ _ _ (hwarm _ _ hs)
    · exact hcommand c l args s hc hm hrun hs
  · cases hi : isReset i with
    | true => exact runEvent_reset_keeps (fun s p => (s.setPower_only p).keeps hP hpower) hwarm hcold restarted hi hs
    | false => exact hevent i s hi hm hs

end

/-! ### Operations of unit arming -/

/-- The unit is DISARMED or carries a visit mark: what R110 and R104 allow only with a present tenant. -/
def UnitRecord.marked (x : UnitRecord) : Prop := x.arm = .disarmed ∨ x.visit = true

theorem UnitRecord.marked_toArm {x : UnitRecord} {a : ArmState} (h : (x.toArm a).marked) : x.marked ∨ a = .disarmed := by
  rcases h with harm | hvisit
  · exact .inr harm
  · rcases Bool.or_eq_true_iff.1 hvisit with hx | ha
    · exact .inl (.inr hx)
    · exact .inr (by simpa using ha)

theorem State.targetOf_disarmed {s : State} {x : UnitRecord} (h : s.targetOf x = .disarmed) :
    ∃ i, x.tenant = some i ∧ s.isPresent i = true := by
  unfold State.targetOf at h
  split at h
  case h_1 => cases h
  case h_2 i hi => exact ⟨i, hi, by by_contra hp; simp [hp] at h; split at h <;> cases h⟩

/-- Unit `x` of `s` may stand as `y`: a mark is new only where the tenant that `y` names is present. -/
def State.mayStand (s : State) (x y : UnitRecord) : Prop :=
  y.marked → (x.marked ∧ y.tenant = x.tenant) ∨ ∃ i, y.tenant = some i ∧ s.isPresent i = true

/-- Only units change, and none is marked anew whose tenant is absent. -/
structure Arms (s t : State) : Prop where
  only : Only [.units] s t
  units : ∀ u, s.mayStand (s.unit u) (t.unit u)

/-- Besides, no unit's tenant changes. -/
structure ArmsOnly (s t : State) : Prop extends Arms s t where
  tenant : ∀ u, (t.unit u).tenant = (s.unit u).tenant

section
variable {s t r : State}

theorem State.isPresent_of_only {ps : List Part} (h : Only ps s t) (hps : Part.roster.isIn ps = false) (i : Nat) :
    t.isPresent i = s.isPresent i := State.isPresent_congr (h .roster hps) i

theorem Arms.refl : Arms s s := ⟨.refl, fun _ h => .inl ⟨h, rfl⟩⟩

theorem Arms.trans (h : Arms s t) (k : Arms t r) : Arms s r := by
  refine ⟨h.only.trans k.only, fun u hu => ?_⟩
  rcases k.units u hu with ⟨ht, hsame⟩ | ⟨i, hi, hp⟩
  · rcases h.units u ht with ⟨hs, hsame'⟩ | ⟨i, hi, hp⟩
    · exact .inl ⟨hs, hsame.trans hsame'⟩
    · exact .inr ⟨i, hsame.trans hi, hp⟩
  · exact .inr ⟨i, hi, State.isPresent_of_only h.only rfl i ▸ hp⟩

theorem Arms.setUnit {u : Nat} {y : UnitRecord} (h : s.mayStand (s.unit u) y) : Arms s (s.setUnit u y) := by
  refine ⟨s.setUnit_only u y, fun v => ?_⟩
  rw [State.setUnit_unit]
  split
  case isTrue hv => exact hv ▸ h
  case isFalse => exact Arms.refl.units v

theorem ArmsOnly.refl : ArmsOnly s s := ⟨.refl, fun _ => rfl⟩

theorem ArmsOnly.trans (h : ArmsOnly s t) (k : ArmsOnly t r) : ArmsOnly s r :=
  ⟨h.toArms.trans k.toArms, fun u => (k.tenant u).trans (h.tenant u)⟩

theorem ArmsOnly.ite {c : Prop} [Decidable c] (ht : ArmsOnly s t) (hr : ArmsOnly s r) : ArmsOnly s (if c then t else r) := by
  split
  exacts [ht, hr]

theorem ArmsOnly.foldl {f : State → Nat → State} (hf : ∀ s u, ArmsOnly s (f s u)) (us : List Nat) (s : State) :
    ArmsOnly s (us.foldl f s) :=
  foldl_keeps (p := ArmsOnly s) (fun _ u h => h.trans (hf _ u)) us .refl

theorem ArmsOnly.setUnit {u : Nat} {y : UnitRecord} (ht : y.tenant = (s.unit u).tenant) (h : s.mayStand (s.unit u) y) :
    ArmsOnly s (s.setUnit u y) := by
  refine ⟨.setUnit h, fun v => ?_⟩
  rw [State.setUnit_unit]
  split
  case isTrue hv => rw [ht, hv]
  case isFalse => rfl

theorem State.append_arms (s : State) (e : Event) : ArmsOnly s (s.append e) :=
  ⟨⟨(s.append_only e).mono, fun _ h => .inl ⟨h, rfl⟩⟩, fun _ => rfl⟩

theorem State.setArm_arms (s : State) (u : Nat) {a : ArmState} (ha : a ≠ .disarmed ∨ a = s.targetState u) :
    ArmsOnly s (s.setArm u a) := by
  rw [State.setArm_eq]
  refine .setUnit rfl fun hm => (UnitRecord.marked_toArm hm).imp (fun hx => ⟨hx, rfl⟩) fun hd => ?_
  exact State.targetOf_disarmed (x := s.unit u) ((ha.resolve_left fun hne => hne hd).symm.trans hd)

theorem State.raiseAlarm_arms (s : State) (u : Nat) (c : AlarmCause) : ArmsOnly s (s.raiseAlarm u c) :=
  (s.setArm_arms u (a := .alarm c) (.inl nofun)).trans (State.append_arms _ _)

theorem State.contactReport_arms (s : State) (u : Nat) (c : Contact) : ArmsOnly s (s.contactReport u c) := by
  have hset : ArmsOnly s (s.setUnit u { s.unit u with contact := c }) := .setUnit rfl fun h => .inl ⟨h, rfl⟩
  refine .ite .refl (.ite (hset.trans ?_) hset)
  unfold State.opening
  split
  case h_1 | h_2 | h_3 => exact State.raiseAlarm_arms _ _ _
  case h_4 => exact State.append_arms _ _
  case h_5 | h_6 => exact .refl

/-- A visit mark taken away. -/
theorem State.clearVisit_arms (s : State) (u : Nat) : ArmsOnly s (s.setUnit u { s.unit u with visit := false }) :=
  .setUnit rfl fun h => .inl ⟨.inl (h.resolve_right nofun), rfl⟩

theorem State.overlockChange_arms (s : State) (slot : Nat) (old new : TenantState) : ArmsOnly s (s.overlockChange slot old new) :=
  .ite (.foldl (fun s u => .ite (s.setArm_arms u (a := .overlock) (.inl nofun)) .refl) _ _)
    (.ite (.foldl (fun s u => .ite (s.setArm_arms u (.inr rfl)) .refl) _ _) .refl)

theorem State.assignArming_arms (s : State) (u : Nat) : ArmsOnly s (s.assignArming u) := .ite .refl (s.setArm_arms u (.inr rfl))

theorem State.endService_arms (s : State) (u : Nat) : ArmsOnly s (s.endService u) := by
  unfold State.endService
  split
  case h_1 => exact .ite (s.raiseAlarm_arms u _) (s.setArm_arms u (a := .vacant) (.inl nofun))
  case h_2 => exact .ite (s.raiseAlarm_arms u _) (s.setArm_arms u (a := .armed) (.inl nofun))
  case h_3 => exact .ite (s.raiseAlarm_arms u _) (s.setArm_arms u (a := .overlock) (.inl nofun))
  case h_4 => exact s.setArm_arms u (.inr rfl)

/-- A unit released names no tenant and carries no mark (R115). -/
theorem UnitRecord.freed_unmarked (x : UnitRecord) : ¬x.freed.marked := by
  rintro (harm | hvisit)
  · unfold UnitRecord.freed at harm
    dsimp only at harm
    split at harm
    case isTrue hstays => rw [harm] at hstays; exact nomatch hstays
    case isFalse => split at harm <;> cases harm
  · exact nomatch hvisit

theorem State.releaseUnit_arms (s : State) (u : Nat) : Arms s (s.releaseUnit u) := by
  rw [State.releaseUnit_eq]
  have hset : Arms s (s.setUnit u (s.unit u).freed) := .setUnit fun h => absurd h (s.unit u).freed_unmarked
  refine foldl_keeps (p := Arms s) (fun _ e h => h.trans (State.append_arms _ e).toArms) _ hset

theorem State.releaseUnits_arms (s : State) (us : List Nat) : Arms s (us.foldl State.releaseUnit s) :=
  foldl_keeps (p := Arms s) (fun _ u h => h.trans (State.releaseUnit_arms _ u)) us .refl

/-- The tenants of units after a list of them is released. -/
theorem State.releaseUnits_tenant (us : List Nat) (s : State) (v : Nat) :
    ((us.foldl State.releaseUnit s).unit v).tenant = if v ∈ us then none else (s.unit v).tenant := by
  induction us generalizing s with
  | nil => simp
  | cons u us ih =>
    have hone : ((s.releaseUnit u).unit v).tenant = if v = u then none else (s.unit v).tenant := by
      rw [State.releaseUnit_eq, State.logged_frame]
      show ((s.setUnit u (s.unit u).freed).unit v).tenant = _
      rw [State.setUnit_unit]
      split <;> rfl
    rw [List.foldl_cons, ih, hone]
    by_cases hv : v = u <;> simp [hv]

/-- One unmarked unit is paired with a tenant and armed (R114). -/
theorem State.loadUnit_arms (i : Nat) (s : State) (u : Nat) (h : ¬(s.unit u).marked) : Arms s (s.loadUnit i u) := by
  refine Arms.trans (t := s.setUnit u { s.unit u with tenant := some i }) (.setUnit fun hm => absurd hm h) ?_
  exact (State.assignArming_arms _ u).toArms

theorem State.loadUnit_tenant (i : Nat) (s : State) (u v : Nat) :
    ((s.loadUnit i u).unit v).tenant = if v = u then some i else (s.unit v).tenant := by
  refine ((State.assignArming_arms (s.setUnit u { s.unit u with tenant := some i }) u).tenant v).trans ?_
  rw [State.setUnit_unit]
  split <;> rfl

theorem State.loadUnit_unit_of_ne (i : Nat) (s : State) {u v : Nat} (h : v ≠ u) : (s.loadUnit i u).unit v = s.unit v := by
  rw [show s.loadUnit i u = _ from State.setUnit_assignArming s u _, State.setUnit_unit, if_neg h]

/-- The units of a committed record: each is paired with the slot, and none is marked whose tenant is absent (R143). -/
theorem State.loadUnits_arms (i : Nat) (us : List Nat) (s : State) (hn : us.Nodup) (h : ∀ u ∈ us, ¬(s.unit u).marked) :
    Arms s (us.foldl (State.loadUnit i) s) := by
  induction us generalizing s with
  | nil => exact .refl
  | cons u us ih =>
    obtain ⟨hu, hus⟩ := List.nodup_cons.1 hn
    refine (s.loadUnit_arms i u (h u List.mem_cons_self)).trans (ih _ hus fun v hv => ?_)
    rw [s.loadUnit_unit_of_ne i (show v ≠ u from fun hvu => hu (hvu ▸ hv))]
    exact h v (List.mem_cons_of_mem _ hv)

theorem State.loadUnits_tenant (i : Nat) (us : List Nat) (s : State) (v : Nat) :
    ((us.foldl (State.loadUnit i) s).unit v).tenant = if v ∈ us then some i else (s.unit v).tenant := by
  induction us generalizing s with
  | nil => simp
  | cons u us ih =>
    rw [List.foldl_cons, ih, State.loadUnit_tenant]
    by_cases hv : v = u <;> simp [hv]

end

/-! ### The pairing of units and tenants (R7) -/

section
variable {s t : State}

theorem State.pairingLaw_congr (hu : ∀ u, (t.unit u).tenant = (s.unit u).tenant) (ht : ∀ i, (t.tenant i).units = (s.tenant i).units)
    (h : s.pairingLaw) : t.pairingLaw := by
  refine ⟨fun u i => ?_, fun i => ?_⟩
  · rw [hu, ht]
    exact h.1 u i
  · rw [ht]
    exact h.2 i

/-- One tenant's list becomes `us`: the pairing is kept where exactly the units of `us` then name the tenant, and those of them
that are new were free. -/
theorem State.pairingLaw_relist {i : Nat} {us : List Nat} (h : s.pairingLaw)
    (ht : ∀ j, (t.tenant j).units = if j = i then us else (s.tenant j).units)
    (hu : ∀ v, (t.unit v).tenant = if v ∈ us then some i else if v ∈ (s.tenant i).units then none else (s.unit v).tenant)
    (hnew : ∀ v ∈ us, v ∈ (s.tenant i).units ∨ (s.unit v).tenant = none) (hn : us.Nodup)
    (hlen : us.length ≤ Config.unitsPerTenant) : t.pairingLaw := by
  refine ⟨fun v j => ?_, fun j => ?_⟩
  · rw [ht, hu]
    by_cases hj : j = i
    · subst hj
      by_cases hv : v ∈ us
      · simp [hv]
      · by_cases hold : v ∈ (s.tenant j).units
        · simp [hv, hold]
        · simp [hv, hold, h.1 v j]
    · rw [if_neg hj, ← h.1 v j]
      by_cases hv : v ∈ us
      · have hother : (s.unit v).tenant ≠ some j := by
          rcases hnew v hv with hmem | hnone
          · rw [(h.1 v i).2 hmem]
            exact fun hij => hj (Option.some.inj hij).symm
          · rw [hnone]
            nofun
        simp [hv, hother, Ne.symm hj]
      · by_cases hold : v ∈ (s.tenant i).units
        · simp [hv, hold, (h.1 v i).2 hold, Ne.symm hj]
        · simp [hv, hold]
  · rw [ht]
    split
    exacts [⟨hn, hlen⟩, h.2 j]

/-- The lists of units after one tenant slot is written. -/
theorem State.setTenant_tenant_units (s : State) (i j : Nat) (r : TenantRecord) :
    ((s.setTenant i r).tenant j).units = if j = i then r.units else (s.tenant j).units := by
  rw [State.setTenant_tenant]
  split <;> rfl

/-- The rights tables: the pairing, no units in a FREE slot's list, no buffered record of more than 8 (R1, R7, R141). -/
def State.rightsLaw (s : State) : Prop := s.pairingLaw ∧ s.freeLaw ∧ s.bufferLaw

theorem State.freeLaw_write {i : Nat} {r : TenantRecord} (h : s.freeLaw) (ht : t.tenants = (s.setTenant i r).tenants)
    (hr : r.state = .free → r.units = []) : t.freeLaw := by
  intro j
  rw [State.tenant_eq_of_tenants ht, State.setTenant_tenant]
  split
  exacts [hr, h j]

theorem State.bufferLaw_congr (hl : t.loader.buffer = s.loader.buffer) (h : s.bufferLaw) : t.bufferLaw := by
  intro d us hd
  rw [hl] at hd
  exact h d us hd

/-- Nothing but units, roster and mode changes and no unit's tenant: the rights tables keep their law. -/
theorem State.rightsLaw_congr (hu : ∀ u, (t.unit u).tenant = (s.unit u).tenant) (ht : t.tenants = s.tenants)
    (hl : t.loader.buffer = s.loader.buffer) (h : s.rightsLaw) : t.rightsLaw := by
  obtain ⟨hpair, hfree, hbuffer⟩ := h
  refine ⟨State.pairingLaw_congr hu (fun i => by rw [State.tenant_eq_of_tenants ht]) hpair, fun i => ?_,
    State.bufferLaw_congr hl hbuffer⟩
  rw [State.tenant_eq_of_tenants ht]
  exact hfree i

theorem State.rightsLaw_reads : Reads State.rightsLaw [.tenants, .units, .loader] := fun s t h =>
  State.rightsLaw_congr (fun u => by rw [State.unit, State.unit, show t.units = s.units from h .units rfl]) (h .tenants rfl)
    (congrArg Loader.buffer (h .loader rfl))

theorem ArmsOnly.rightsLaw (k : ArmsOnly s t) (h : s.rightsLaw) : t.rightsLaw :=
  State.rightsLaw_congr k.tenant (k.only .tenants rfl) (congrArg Loader.buffer (k.only .loader rfl)) h

/-- A slot's list becomes `us` with the units after it: what the four edits and a committed record leave. -/
theorem State.rightsLaw_relist {i : Nat} {r : TenantRecord} (h : s.rightsLaw) (ht : t.tenants = (s.setTenant i r).tenants)
    (hl : t.loader.buffer = s.loader.buffer) (hr : r.state = .free → r.units = [])
    (hu : ∀ v, (t.unit v).tenant = if v ∈ r.units then some i else if v ∈ (s.tenant i).units then none else (s.unit v).tenant)
    (hnew : ∀ v ∈ r.units, v ∈ (s.tenant i).units ∨ (s.unit v).tenant = none) (hn : r.units.Nodup)
    (hlen : r.units.length ≤ Config.unitsPerTenant) : t.rightsLaw := by
  obtain ⟨hpair, hfree, hbuffer⟩ := h
  refine ⟨State.pairingLaw_relist hpair (fun j => ?_) hu hnew hn hlen, State.freeLaw_write hfree ht hr,
    State.bufferLaw_congr hl hbuffer⟩
  rw [State.tenant_eq_of_tenants ht, State.setTenant_tenant_units]

/-- A slot rewritten with the list it has, the units keeping their tenants. -/
theorem State.rightsLaw_rewrite {i : Nat} {r : TenantRecord} (h : s.rightsLaw) (ht : t.tenants = (s.setTenant i r).tenants)
    (hl : t.loader.buffer = s.loader.buffer) (hr : r.state ≠ .free) (hus : r.units = (s.tenant i).units)
    (hu : ∀ v, (t.unit v).tenant = (s.unit v).tenant) : t.rightsLaw := by
  obtain ⟨hn, hlen⟩ := h.1.2 i
  refine State.rightsLaw_relist h ht hl (fun hf => absurd hf hr) (fun v => ?_) (fun v hv => .inl (hus ▸ hv)) (hus ▸ hn) (hus ▸ hlen)
  rw [hus, hu]
  by_cases hv : v ∈ (s.tenant i).units
  · rw [if_pos hv, (h.1.1 v i).2 hv]
  · rw [if_neg hv, if_neg hv]

end

/-! ### The roster's slots (R41) -/

/-- The tenant slots with a presence record, oldest first. -/
def State.slots (s : State) : List Nat := s.roster.map (·.slot)

theorem State.isPresent_iff (s : State) (i : Nat) : s.isPresent i = true ↔ i ∈ s.slots := by
  simp [State.isPresent, State.presence, State.slots]

theorem State.presentLaw_iff (s : State) : s.presentLaw ↔ ∀ i ∈ s.slots, (s.tenant i).state ≠ .free := by
  simp [State.presentLaw, State.slots]

theorem rosterMoved_slots (slot f : Nat) (r : List Presence) : (rosterMoved slot f r).map (·.slot) = r.map (·.slot) := by
  rw [rosterMoved, List.map_map]
  refine List.map_congr_left fun p _ => ?_
  dsimp only [Function.comp]
  split <;> rfl

theorem mem_slots_filter (slot i : Nat) (r : List Presence) :
    i ∈ (r.filter fun p => p.slot ≠ slot).map (·.slot) ↔ i ∈ r.map (·.slot) ∧ i ≠ slot := by
  simp only [List.mem_map, List.mem_filter, decide_eq_true_eq]
  constructor
  · rintro ⟨p, ⟨hp, hne⟩, rfl⟩
    exact ⟨⟨p, hp, rfl⟩, hne⟩
  · rintro ⟨⟨p, hp, rfl⟩, hne⟩
    exact ⟨p, ⟨hp, hne⟩, rfl⟩

/-! ### Marks and presence (R110, R104, R42) -/

/-- A mark, or DISARMED, only with a present tenant; a presence record only of a slot in use. -/
def State.standLaw (s : State) : Prop := s.armingLaw ∧ s.presentLaw

section
variable {s t : State}

/-- Units that may stand as they do, on a roster that has lost nobody. -/
theorem State.armingLaw_of_mayStand (h : s.armingLaw) (hp : ∀ i, s.isPresent i = true → t.isPresent i = true)
    (hu : ∀ u, s.mayStand (s.unit u) (t.unit u)) : t.armingLaw := by
  intro u hm
  rcases hu u hm with ⟨hold, hsame⟩ | ⟨i, hi, hpresent⟩
  · obtain ⟨i, hi, hpresent⟩ := h u hold
    exact ⟨i, hsame.trans hi, hp i hpresent⟩
  · exact ⟨i, hi, hp i hpresent⟩

theorem Arms.armingLaw (k : Arms s t) (h : s.armingLaw) : t.armingLaw :=
  State.armingLaw_of_mayStand h (fun i hi => State.isPresent_of_only k.only rfl i ▸ hi) k.units

theorem State.presentLaw_congr (ht : t.tenants = s.tenants) (hr : t.slots = s.slots) (h : s.presentLaw) : t.presentLaw := by
  rw [State.presentLaw_iff] at *
  intro i hi
  rw [State.tenant_eq_of_tenants ht]
  exact h i (hr ▸ hi)

theorem Arms.standLaw (k : Arms s t) (h : s.standLaw) : t.standLaw :=
  ⟨k.armingLaw h.1, State.presentLaw_congr (k.only .tenants rfl) (congrArg (List.map _) (k.only .roster rfl)) h.2⟩

/-- The roster's records change but not whose they are. -/
theorem State.standLaw_of_slots (hu : t.units = s.units) (ht : t.tenants = s.tenants) (hr : t.slots = s.slots)
    (h : s.standLaw) : t.standLaw := by
  refine ⟨State.armingLaw_of_mayStand h.1 (fun i hi => ?_) (fun u hm => .inl ?_), State.presentLaw_congr ht hr h.2⟩
  · rw [State.isPresent_iff] at *
    rwa [hr]
  · have hunit : t.unit u = s.unit u := by
      unfold State.unit
      rw [hu]
    rw [hunit] at hm ⊢
    exact ⟨hm, rfl⟩

theorem State.standLaw_reads : Reads State.standLaw [.tenants, .units, .roster] := fun _ _ h =>
  State.standLaw_of_slots (h .units rfl) (h .tenants rfl) (congrArg (List.map _) (h .roster rfl))

/-- One tenant slot is rewritten, which is not FREE after, or whose tenant is absent. -/
theorem State.standLaw_setTenant {i : Nat} {r : TenantRecord} (h : s.standLaw)
    (hr : r.state ≠ .free ∨ s.isPresent i = false) : (s.setTenant i r).standLaw := by
  refine ⟨h.1, (State.presentLaw_iff _).2 fun j hj => ?_⟩
  rw [State.setTenant_tenant]
  split
  case isTrue hji =>
    refine hr.resolve_right fun habsent => ?_
    rw [← hji, ← Bool.not_eq_true, State.isPresent_iff] at habsent
    exact habsent hj
  case isFalse => exact (State.presentLaw_iff s).1 h.2 j hj

/-! ### Completions (R48 to R52) -/

variable {kind : CompletionKind} {h : Option Holder} {r : Option Reservation} {dest : Nat} {subject : Subject} {done : Event}

/-- The units' tenants are those before, whatever a completion does to their arm states. -/
theorem State.tenant_eq_of_completes (hc : s.completes t kind h r dest subject done) (u : Nat) :
    (t.unit u).tenant = (s.unit u).tenant := by
  have appended {e : Event} (ht : t = s.append e) : (t.unit u).tenant = (s.unit u).tenant := by rw [ht]; rfl
  match h with
  | none => exact appended hc
  | some h =>
    obtain ⟨horphan, hcounts⟩ := hc
    by_cases ho : s.orphaned kind h r
    · exact appended (horphan ho)
    · replace hcounts := hcounts ho
      cases kind with
      | entry =>
        rw [hcounts.1, State.unitEntered]
        split <;> rfl
      | exit =>
        dsimp only at hcounts
        split at hcounts
        case isTrue =>
          rw [hcounts.1, State.unitLeft]
          split <;> rfl
        case isFalse => exact appended hcounts
      | zone | alight => rw [hcounts]; rfl

/-- A unit after the exit hand-off of its tenant carries no mark (R110). -/
theorem State.unitLeft_unmarked (s : State) {slot u : Nat} (hu : u ∈ (s.tenant slot).units) : ¬(s.unitLeft slot u).marked := by
  unfold State.unitLeft
  rw [if_pos hu]
  rintro (harm | hvisit)
  · dsimp only at harm
    split at harm
    case isTrue =>
      split at harm
      · cases harm
      · split at harm <;> cases harm
    case isFalse hne => exact hne harm
  · exact nomatch hvisit

/-- An exit's roster change and hand-off, by hand or at a completion (R50, R57, R110). -/
theorem State.standLaw_of_exit {slot : Nat} (hpair : s.pairingLaw) (hs : s.standLaw) (ht : t.tenants = s.tenants)
    (hr : t.roster = s.roster.filter fun p => p.slot ≠ slot) (hu : ∀ u, t.unit u = s.unitLeft slot u) : t.standLaw := by
  have hslots (i : Nat) : i ∈ t.slots ↔ i ∈ s.slots ∧ i ≠ slot := by
    rw [State.slots, hr]
    exact mem_slots_filter slot i s.roster
  refine ⟨fun u hm => ?_, (State.presentLaw_iff t).2 fun i hi => ?_⟩
  · replace hm : (s.unitLeft slot u).marked := hu u ▸ hm
    have hout : u ∉ (s.tenant slot).units := fun hmem => s.unitLeft_unmarked hmem hm
    have hsame : s.unitLeft slot u = s.unit u := if_neg hout
    obtain ⟨i, hi, hpresent⟩ := hs.1 u (hsame ▸ hm)
    refine ⟨i, by rw [hu, hsame, hi], ?_⟩
    rw [State.isPresent_iff, hslots, ← State.isPresent_iff]
    exact ⟨hpresent, fun his => hout ((hpair.1 u slot).1 (his ▸ hi))⟩
  · rw [State.tenant_eq_of_tenants ht]
    exact (State.presentLaw_iff s).1 hs.2 i ((hslots i).1 hi).1

/-- An entry's: who arrives is present, and in use, since the completion is no orphan (R48, R49, R109). -/
theorem State.standLaw_of_entry {slot : Nat} (hpair : s.pairingLaw) (hs : s.standLaw) (huse : (s.tenant slot).state ≠ .free)
    (ht : t.tenants = s.tenants) (hr : ∀ i, i ∈ t.slots ↔ i ∈ s.slots ∨ i = slot) (hu : ∀ u, t.unit u = s.unitEntered slot u) :
    t.standLaw := by
  have hpresent (i : Nat) : t.isPresent i = true ↔ s.isPresent i = true ∨ i = slot := by
    rw [State.isPresent_iff, hr, State.isPresent_iff]
  refine ⟨fun u hm => ?_, (State.presentLaw_iff t).2 fun i hi => ?_⟩
  · rw [hu] at hm ⊢
    unfold State.unitEntered at *
    split
    case isTrue hlisted => exact ⟨slot, (hpair.1 u slot).2 hlisted.2.1, (hpresent slot).2 (.inr rfl)⟩
    case isFalse hnot =>
      rw [if_neg hnot] at hm
      obtain ⟨i, hi, hp⟩ := hs.1 u hm
      exact ⟨i, hi, (hpresent i).2 (.inl hp)⟩
  · rw [State.tenant_eq_of_tenants ht]
    rcases (hr i).1 hi with hold | hnew
    exacts [(State.presentLaw_iff s).1 hs.2 i hold, hnew ▸ huse]

theorem State.standLaw_of_completes (hpair : s.pairingLaw) (hs : s.standLaw) (hc : s.completes t kind h r dest subject done) :
    t.standLaw := by
  have appended {e : Event} (ht : t = s.append e) : t.standLaw := by rw [ht]; exact hs
  match h with
  | none => exact appended hc
  | some h =>
    obtain ⟨horphan, hcounts⟩ := hc
    by_cases ho : s.orphaned kind h r
    · exact appended (horphan ho)
    · have huse : (s.tenant h.slot).state ≠ .free := fun hf => ho (.inl hf)
      replace hcounts := hcounts ho
      cases kind with
      | entry =>
        obtain ⟨hunits, hframe⟩ := hcounts
        refine State.standLaw_of_entry hpair hs huse ?_ (fun i => ?_) hunits
        · rw [hframe, State.logged_frame]
        · rw [State.slots, hframe]
          dsimp only
          split
          case isTrue hp =>
            rw [rosterMoved_slots]
            exact ⟨.inl, fun hi => hi.elim id fun hi => hi ▸ (s.isPresent_iff _).1 hp⟩
          case isFalse =>
            rw [List.map_append, List.mem_append]
            exact or_congr Iff.rfl (by simp [State.arrival])
      | exit =>
        dsimp only at hcounts
        split at hcounts
        case isTrue =>
          obtain ⟨hunits, hframe⟩ := hcounts
          refine State.standLaw_of_exit hpair hs ?_ ?_ hunits
          · rw [hframe, State.logged_frame]
          · rw [hframe]
        case isFalse => exact appended hcounts
      | zone | alight =>
        refine State.standLaw_of_slots ?_ ?_ ?_ hs
        · rw [hcounts]; rfl
        · rw [hcounts]; rfl
        · rw [State.slots, hcounts]
          exact rosterMoved_slots _ _ _

end

/-! ### What the commands keep -/

section
variable {s : State}

theorem answer_keeps {P : State → Prop} {checks : List (Bool × ResultCode)} {effect : State} (hs : P s) (he : P effect) :
    P (answer checks s effect).2 := by
  rcases answer_cases checks s effect with h | h <;> rw [h]
  exacts [hs, he]

theorem endByField_keeps {P : State → Prop} {args : List Byte} {act : Nat → Passage → State} (hs : P s)
    (hact : ∀ n p, n < Config.stationCount → (s.station n).state = .passage p → p.channel = none → P (act n p)) : P (endByField args s act).2 := by
  unfold endByField
  dsimp only
  split
  case isTrue => exact hs
  case isFalse hn =>
    split
    case h_1 => exact hs
    case h_2 p hp =>
      unfold State.openPassage at hp
      split at hp
      case h_1 q hq =>
        obtain ⟨hnone, hqp⟩ := Option.ite_none_right_eq_some.1 hp
        obtain rfl := Option.some.inj hqp
        exact hact _ q (by omega) hq (by simpa using hnone)
      case h_2 => cases hp

theorem endByLift_keeps {P : State → Prop} {args : List Byte} {act : Nat → Trip → State} (hs : P s)
    (hact : ∀ n t, n < Config.carCount → (s.car n).state = .trip t → P (act n t)) : P (endByLift args s act).2 := by
  unfold endByLift
  dsimp only
  split
  case isTrue => exact hs
  case isFalse hn =>
    split
    case h_1 t ht => exact hact _ t (by omega) ht
    case h_2 => exact hs

/-- The commands that write units and no tenant are operations of unit arming. -/
theorem runCommand_arms (c : Command) (l : Lines) (args : List Byte) (s : State)
    (hc : c = .unitFloor ∨ c = .unitService ∨ c = .unitAck ∨ c = .unitContact) : ArmsOnly s (runCommand c l args s).2 := by
  rcases hc with rfl | rfl | rfl | rfl
  · refine answer_keeps (P := ArmsOnly s) .refl (.setUnit rfl fun h => .inl ⟨h, rfl⟩)
  · show ArmsOnly s (runUnitService args s).2
    rw [runUnitService_eq]
    split
    · exact .refl
    split
    · exact .refl
    · exact .ite (s.setArm_arms _ (a := .service) (.inl nofun)) (s.endService_arms _)
  · show ArmsOnly s (runUnitAck args s).2
    by_cases hu : wordAt args 0 < 3072
    · by_cases hno : ∀ c, (s.unit (wordAt args 0)).arm ≠ .alarm c
      · rw [runUnitAck_noAlarm hu hno]
        exact .refl
      · obtain ⟨c, hc⟩ := not_forall_not.1 hno
        rw [runUnitAck_alarm hu hc]
        split
        · exact .refl
        · exact (s.setArm_arms _ (.inr rfl)).trans (State.append_arms _ _)
    · rw [show runUnitAck args s = (.badArgument, s) from if_pos (Nat.not_lt.1 hu)]
      exact .refl
  · show ArmsOnly s (runUnitContact args s).2
    rw [runUnitContact_eq]
    split
    · exact .refl
    · exact s.contactReport_arms _ _

theorem TenantRecord.write_ne_free (r : TenantRecord) (d : TenantDetails) : (r.write d).state ≠ .free := by
  intro h
  have hwrite : (r.write d).state = if r.state = .free then .active else r.state := rfl
  rw [hwrite] at h
  split at h
  case isTrue => cases h
  case isFalse hne => exact hne h

/-- A buffered record, as LOAD DATA reads it, names at most 8 units (R141). -/
theorem loadRecordOf_length {kind : LoadKind} {args : List Byte} {d : TenantDetails} {us : List Nat}
    (h : loadRecordOf kind args = some (.tenant d us)) : us.length ≤ Config.unitsPerTenant := by
  cases kind with
  | tenant =>
    obtain ⟨hle, hmap⟩ := Option.ite_none_right_eq_some.1 h
    obtain ⟨e, -, he⟩ := Option.map_eq_some_iff.1 hmap
    cases he
    simpa [wordsAt] using hle
  | unitFloor =>
    obtain ⟨-, he⟩ := Option.ite_none_right_eq_some.1 h
    cases he

/-- LOAD DATA, refused or with the record buffered (R141). -/
theorem runLoadData_cases (args : List Byte) (s : State) :
    (runLoadData args s).2 = s ∨
      ∃ r, s.loader.active = true ∧ loadRecordOf s.loader.kind args = some r ∧
        s.loader.buffer.length + s.loader.committed + s.loader.skipped < s.loader.count ∧
        s.loader.buffer.length < Config.loaderBuffer ∧
        (runLoadData args s).2 = s.setLoader { s.loader with buffer := s.loader.buffer ++ [r] } := by
  unfold runLoadData
  dsimp only
  split
  case isTrue => exact .inl rfl
  case isFalse hactive =>
    split
    case h_1 => exact .inl rfl
    case h_2 r hr =>
      refine (answer_inv _ _ _).imp_right fun ⟨hchecks, heffect⟩ => ?_
      simp only [List.forall_mem_cons, decide_eq_false_iff_not, not_le] at hchecks
      exact ⟨r, by simpa using hactive, hr, hchecks.1, hchecks.2.1, heffect⟩

/-- PRESENCE REMOVE, refused or taken (R57). -/
theorem runPresenceRemove_cases (args : List Byte) (s : State) :
    (runPresenceRemove args s).2 = s ∨ ∃ p ∈ s.roster, (runPresenceRemove args s).2 = s.removeByHand p := by
  unfold runPresenceRemove
  split
  · exact .inl rfl
  · split
    case h_1 => exact .inl rfl
    case h_2 p hp => exact .inr ⟨p, List.mem_of_find?_eq_some hp, rfl⟩

theorem State.rightsLaw_of_completes {t : State} {kind : CompletionKind} {h : Option Holder} {r : Option Reservation} {dest : Nat}
    {subject : Subject} {done : Event} (ht : t = s.complete kind h r dest subject done) (hs : s.rightsLaw) : t.rightsLaw := by
  subst ht
  have ho := s.complete_only kind h r dest subject done
  have hc := s.complete_completes kind h r dest subject done fun i => (hs.1.2 i).1
  exact State.rightsLaw_congr (State.tenant_eq_of_completes hc) (ho .tenants rfl) (congrArg Loader.buffer (ho .loader rfl)) hs

theorem State.removeByHand_units (s : State) (p : Presence) (hn : (s.tenant p.slot).units.Nodup) (u : Nat) :
    (s.removeByHand p).unit u = s.unitLeft p.slot u := (s.exit_completes p.slot (.presenceRemoved p.slot p.floor) hn).1 u

theorem State.completePassage_rightsLaw (hs : s.rightsLaw) (n : Nat) (p : Passage) : (s.completePassage n p).rightsLaw :=
  (State.endPassage_only _ n p .ready).keeps State.rightsLaw_reads rfl (State.rightsLaw_of_completes rfl hs)

theorem runCommand_rightsLaw (c : Command) (l : Lines) (args : List Byte) (s : State) (hc : c ≠ .deviceReset)
    (hs : s.rightsLaw) : (runCommand c l args s).2.rightsLaw := by
  have same {t : State} (h : t = s) : t.rightsLaw := h ▸ hs
  cases c
  case deviceReset => exact absurd rfl hc
  case tenantWrite =>
    rcases runTenantWrite_cases l.svckey args s with h | ⟨slot, d, -, -, h⟩
    · exact same h
    · rw [show (runCommand .tenantWrite l args s).2 = _ from h]
      exact State.rightsLaw_rewrite hs rfl rfl (TenantRecord.write_ne_free _ d) rfl fun _ => rfl
  case tenantState =>
    rcases runTenantState_cases l.svckey args s with h | ⟨slot, new, -, -, hnew, h⟩
    · exact same h
    · rw [show (runCommand .tenantState l args s).2 = _ from h]
      let r : TenantRecord := { s.tenant slot with state := new }
      have k := (s.setTenant slot r).overlockChange_arms slot (s.tenant slot).state new
      exact State.rightsLaw_rewrite hs (r := r) (k.only .tenants rfl) (congrArg Loader.buffer (k.only .loader rfl)) hnew rfl k.tenant
  case tenantFree =>
    rcases runTenantFree_cases l.svckey s with h | ⟨slot, -, -, -, h⟩
    · exact same h
    · rw [show (runCommand .tenantFree l args s).2 = _ from h]
      let r : TenantRecord := { s.tenant slot with state := .free, units := [] }
      have k := (s.setTenant slot r).releaseUnits_arms (s.tenant slot).units
      refine State.rightsLaw_relist hs (i := slot) (r := r) (k.only .tenants rfl) (congrArg Loader.buffer (k.only .loader rfl))
        (fun _ => rfl) (fun v => ?_) nofun .nil (Nat.zero_le _)
      exact State.releaseUnits_tenant _ (s.setTenant slot r) v
  case assignUnit =>
    rcases runAssignUnit_cases l.svckey args s with h | ⟨slot, u, -, huse, hnone, hroom, h⟩
    · exact same h
    · rw [show (runCommand .assignUnit l args s).2 = _ from h]
      let r : TenantRecord := { s.tenant slot with units := (s.tenant slot).units ++ [u] }
      let s1 := (s.setTenant slot r).setUnit u { s.unit u with tenant := some slot }
      have k : ArmsOnly s1 (s.assignUnit slot u) := s1.assignArming_arms u
      have hout : u ∉ (s.tenant slot).units := fun hmem => nomatch hnone.symm.trans ((hs.1.1 u slot).2 hmem)
      refine State.rightsLaw_relist hs (i := slot) (r := r) (k.only .tenants rfl) (congrArg Loader.buffer (k.only .loader rfl))
        (fun hf => absurd hf huse) (fun v => ?_) (fun v hv => ?_) ?_ ?_
      · rw [k.tenant, State.setUnit_unit]
        by_cases hv : v = u
        · simp [hv, r]
        · by_cases hmem : v ∈ (s.tenant slot).units
          · simp [hv, hmem, r, (hs.1.1 v slot).2 hmem]
          · simp [hv, hmem, r]
      · rcases List.mem_append.1 hv with hold | hnew
        · exact .inl hold
        · exact .inr (List.mem_singleton.1 hnew ▸ hnone)
      · exact List.nodup_append.2 ⟨(hs.1.2 slot).1, List.nodup_singleton u, fun a ha b hb hab =>
          hout (List.mem_singleton.1 hb ▸ hab ▸ ha)⟩
      · simpa [r] using hroom
  case releaseUnit =>
    rcases runReleaseUnit_cases l.svckey args s with h | ⟨slot, u, -, huse, hmem, h⟩
    · exact same h
    · rw [show (runCommand .releaseUnit l args s).2 = _ from h]
      let r : TenantRecord := { s.tenant slot with units := (s.tenant slot).units.filter (· != u) }
      have k := (s.setTenant slot r).releaseUnit_arms u
      refine State.rightsLaw_relist hs (i := slot) (r := r) (k.only .tenants rfl) (congrArg Loader.buffer (k.only .loader rfl))
        (fun hf => absurd hf huse) (fun v => ?_) (fun v hv => .inl (List.mem_of_mem_filter hv)) ((hs.1.2 slot).1.filter _)
        ((List.length_filter_le _ _).trans (hs.1.2 slot).2)
      refine (State.releaseUnits_tenant [u] (s.setTenant slot r) v).trans ?_
      by_cases hv : v = u
      · simp [hv, r, hmem]
      · by_cases hold : v ∈ (s.tenant slot).units
        · simp [hv, hold, r, (hs.1.1 v slot).2 hold]
        · simp [hv, hold, r]
  case unitFloor | unitService | unitAck | unitContact => exact (runCommand_arms _ l args s (by simp)).rightsLaw hs
  case presenceRemove =>
    rcases runPresenceRemove_cases args s with h | ⟨p, -, h⟩
    · exact same h
    · rw [show (runCommand .presenceRemove l args s).2 = _ from h]
      have ho := s.removeByHand_only p
      refine State.rightsLaw_congr (fun u => ?_) (ho .tenants rfl) (congrArg Loader.buffer (ho .loader rfl)) hs
      rw [s.removeByHand_units p (hs.1.2 _).1, State.unitLeft]
      split <;> rfl
  case loadBegin =>
    show (runLoadBegin args s).2.rightsLaw
    unfold runLoadBegin
    dsimp only
    split
    · exact hs
    · exact answer_keeps hs ⟨hs.1, hs.2.1, nofun⟩
  case loadData =>
    rcases runLoadData_cases args s with h | ⟨r, -, hr, -, -, h⟩
    · exact same h
    · rw [show (runCommand .loadData l args s).2 = _ from h]
      refine ⟨hs.1, hs.2.1, fun d us hd => ?_⟩
      rcases List.mem_append.1 hd with hold | hnew
      · exact hs.2.2 d us hold
      · exact loadRecordOf_length (List.mem_singleton.1 hnew ▸ hr)
  case loadAbort => exact answer_keeps hs ⟨hs.1, hs.2.1, nofun⟩
  case passed => exact endByField_keeps hs fun n p _ _ _ => State.completePassage_rightsLaw hs n p
  case carAlight =>
    refine endByLift_keeps hs fun n t _ _ => ?_
    exact (State.setCarState_only _ n .idle).keeps State.rightsLaw_reads rfl (State.rightsLaw_of_completes rfl hs)
  all_goals exact (runCommand_only _ l args s).keeps State.rightsLaw_reads rfl hs

end

end Sys2Proof.Machine
end

section
/-! The rights tables and unit arming under every event (O48, O49): the completions that gate contacts make, the records that the
arbiter commits, and the resets. -/

namespace Sys2Proof.Machine

set_option Elab.async false -- one thread for the file, as in the tests: a thread for each theorem reaches the memory limit

section
variable {s : State}

/-- A gate that closes completes at most the passage the channel carries (R76, R126). -/
theorem State.gateClosed_keeps {P : State → Prop} (c : Nat) (hchannel : P (s.channelClosed c))
    (hcomplete : ∀ n p, (s.channel c).carried = some n → (s.station n).state = .passage p →
      P ((s.channelClosed c).completePassage n p)) : P (s.gateClosed c) := by
  have hcarried : ((s.channelClosed c).channel c).carried = (s.channel c).carried := by
    unfold State.channelClosed
    dsimp only
    split <;> simp [Channel.driveOff]
  have hstation (n : Nat) : (s.channelClosed c).station n = s.station n := by
    rw [State.station, (s.channelClosed_only c) .stations rfl]
    rfl
  unfold State.gateClosed State.handClosed State.withCarried
  split
  case h_1 => exact hchannel
  case h_2 n hn =>
    split
    case h_1 p hp =>
      dsimp only
      split
      · exact hcomplete n p (hcarried ▸ hn) (hstation n ▸ hp)
      · exact hchannel
    case h_2 => exact hchannel

/-- What the examination of a record makes of the tables: nothing, a unit's floor, or a TENANT record committed (R143, R144). -/
theorem State.examine_cases (s : State) (svckey : Bool) (target : Nat) (r : LoadRecord) :
    (s.examine svckey target r).2 = s ∨
      (∃ f, (s.examine svckey target r).2 = s.setUnit target { s.unit target with floor := f }) ∨
      ∃ d us, r = .tenant d us ∧ s.skipsTenant svckey target d us = false ∧
        (s.examine svckey target r).2 = s.commitTenant target d us := by
  cases r with
  | tenant d us =>
    unfold State.examine
    dsimp only
    split
    case isTrue => exact .inl rfl
    case isFalse h => exact .inr (.inr ⟨d, us, rfl, by simpa using h, rfl⟩)
  | floor f =>
    unfold State.examine
    dsimp only
    split
    · exact .inl rfl
    · exact .inr (.inl ⟨f, rfl⟩)

/-- The rights tables after a record is committed: the slot was FREE and had no units, and the record's units were free (R143). -/
theorem State.commitTenant_rightsLaw (hs : s.rightsLaw) {svckey : Bool} {target : Nat} {d : TenantDetails} {us : List Nat}
    (hlen : us.length ≤ Config.unitsPerTenant) (hskip : s.skipsTenant svckey target d us = false) :
    (s.commitTenant target d us).rightsLaw := by
  obtain ⟨hfree, -, -, -, hn, hnone⟩ := (s.skipsTenant_eq_false svckey target d us).1 hskip
  have hempty : (s.tenant target).units = [] := hs.2.1 target hfree
  have ho : Only [.units] (s.setTenant target { (s.tenant target).write d with units := us }) (s.commitTenant target d us) :=
    Only.foldl (fun s _ => (s.setUnit_only _ _).trans (State.assignArming_only _ _)) _ _
  refine State.rightsLaw_relist hs (i := target) (r := { (s.tenant target).write d with units := us }) (ho .tenants rfl)
    (congrArg Loader.buffer (ho .loader rfl)) (fun hf => absurd hf (TenantRecord.write_ne_free _ d)) (fun v => ?_)
    (fun v hv => .inr (hnone v hv)) hn hlen
  rw [hempty]
  exact State.loadUnits_tenant target us _ v

theorem State.examine_rightsLaw (hs : s.rightsLaw) (svckey : Bool) (target : Nat) {r : LoadRecord} (hr : r ∈ s.loader.buffer) :
    (s.examine svckey target r).2.rightsLaw := by
  rcases s.examine_cases svckey target r with h | ⟨f, h⟩ | ⟨d, us, rfl, hskip, h⟩
  · rw [h]
    exact hs
  · rw [h]
    exact ArmsOnly.rightsLaw (.setUnit rfl fun hm => .inl ⟨hm, rfl⟩) hs
  · rw [h]
    exact State.commitTenant_rightsLaw hs (hs.2.2 d us hr) hskip

theorem State.takeRecord_rightsLaw (hs : s.rightsLaw) (svckey : Bool) : (s.takeRecord svckey).rightsLaw := by
  rcases s.takeRecord_cases svckey with h | ⟨r, rest, hbuffer, goes, es, h, -⟩
  · rw [h]
    exact hs
  · have he := State.examine_rightsLaw hs svckey s.loader.nextTarget (r := r) (by simp [hbuffer])
    rw [h, State.logged_frame]
    refine ⟨he.1, he.2.1, fun d us hd => hs.2.2 d us ?_⟩
    rw [hbuffer]
    exact List.mem_cons_of_mem _ hd

theorem runEvent_rightsLaw (i : Instr) (hi : isReset i = false) (hs : s.rightsLaw) : (runEvent i s).rightsLaw := by
  by_cases hm : meets [.tenants, .units, .loader] (eventParts i) = true
  · cases i
    case gateContactClose c =>
      show State.rightsLaw (if (s.channel c).gateOpen then s.gateClosed c else s)
      split
      · have hclosed := (s.channelClosed_only c).keeps State.rightsLaw_reads rfl hs
        exact State.gateClosed_keeps c hclosed fun n p _ _ => State.completePassage_rightsLaw hclosed n p
      · exact hs
    case loaderExamine key => exact State.takeRecord_rightsLaw hs key
    case pinReset | coldReset | retentionReset => exact nomatch hi
    all_goals exact nomatch hm
  · exact (runEvent_only i s).keeps State.rightsLaw_reads (by simpa using hm) hs

/-- Every event keeps the pairing of units and tenants, the empty lists of FREE slots and the bound of buffered records. -/
theorem exec_rightsLaw (i : Instr) (s t : State) (hs : s.rightsLaw) (h : exec i s = .next t) : t.rightsLaw := by
  refine exec_keeps_resets State.rightsLaw_reads (fun c l args s hc _ _ hs => runCommand_rightsLaw c l args s hc hs)
    (fun i s hi _ hs => runEvent_rightsLaw i hi hs) (fun s p hs => ⟨hs.1, hs.2.1, nofun⟩) (fun s hs => ?_)
    (i := i) (s := s) (t := t) (hs := hs) (h := h)
  refine ⟨⟨fun u i => ?_, fun i => ⟨.nil, Nat.zero_le _⟩⟩, fun i _ => rfl, nofun⟩
  exact ⟨nofun, nofun⟩

end

/-- Settles O48: the credentials by lawful writes, the pairing by the list that each edit and each committed record leaves. -/
theorem rightsTablesKeepTheirLaws : Obligations.RightsTablesKeepTheirLaws :=
  ⟨exec_credentialLaw, exec_rightsLaw⟩

/-! ### Arming and presence -/

section
variable {s t : State}

theorem State.completePassage_standLaw (hr : s.rightsLaw) (hs : s.standLaw) (n : Nat) (p : Passage) :
    (s.completePassage n p).standLaw :=
  (State.endPassage_only _ n p .ready).keeps State.standLaw_reads rfl
    (State.standLaw_of_completes hr.1 hs (s.complete_completes _ _ _ _ _ _ fun i => (hr.1.2 i).1))

/-- The phase's evaluation changes countdowns and states of presence records, not whose they are. -/
theorem State.rosterClose_slots (s : State) (g : Nat) : (s.rosterClose g).slots = s.slots := by
  have hmap (f : Presence → Presence) (hf : ∀ p, (f p).slot = p.slot) : (s.roster.map f).map (·.slot) = s.slots := by
    rw [List.map_map]
    exact List.map_congr_left fun p _ => hf p
  unfold State.rosterClose
  dsimp only
  split
  · refine (congrArg (List.map _) (State.appendOverstays_only _ _ .roster rfl)).trans (hmap _ fun p => ?_)
    split <;> rfl
  · exact hmap _ fun p => by split <;> rfl

theorem Presence.tick_slot (p : Presence) : p.tick.slot = p.slot := by
  unfold Presence.tick
  split
  · rfl
  · split <;> rfl

theorem State.rosterTick_slots (s : State) : s.rosterTick.slots = s.slots := by
  refine (congrArg (List.map _) (State.appendOverstays_only _ _ .roster rfl)).trans ?_
  exact (List.map_map ..).trans (List.map_congr_left fun p _ => p.tick_slot)

theorem State.evaluatePhase_slots (s : State) (tick : Bool) : (s.evaluatePhase tick).slots = s.slots := by
  have hopen : s.openEvent.slots = s.slots := by
    refine (congrArg (List.map _) (State.channelsFollowPhase_only _ .roster rfl)).trans ?_
    exact (List.map_map ..).trans rfl
  unfold State.evaluatePhase
  split
  case h_2 =>
    refine (congrArg (List.map _) (State.channelsFollowPhase_only _ .roster rfl)).trans ?_
    exact State.rosterClose_slots _ _
  case h_4 =>
    split
    · exact State.rosterTick_slots _
    · rfl
  case h_3 | h_5 => exact hopen
  case h_1 | h_6 => rfl

theorem State.minuteTick_slots (s : State) : s.minuteTick.slots = s.slots := by
  unfold State.minuteTick
  dsimp only
  split
  · split
    · exact State.evaluatePhase_slots _ _
    · rfl
  · rfl

theorem State.secondTick_slots (s : State) : s.secondTick.slots = s.slots := by
  unfold State.secondTick
  split
  · split
    · rfl
    · exact s.minuteTick_slots
  · rfl

/-- Ticks and SET CLOCK leave who is present, and no unit changes. -/
theorem State.standLaw_of_phase (ho : Only [.clock, .roster, .channels, .stations] s t) (hr : t.slots = s.slots)
    (h : s.standLaw) : t.standLaw := State.standLaw_of_slots (ho .units rfl) (ho .tenants rfl) hr h

theorem runOverstayAck_slots (args : List Byte) (s : State) : (runOverstayAck args s).2.slots = s.slots := by
  unfold runOverstayAck
  dsimp only
  split
  · rfl
  · split
    · rfl
    · refine answer_keeps (P := fun t : State => t.slots = s.slots) rfl ?_
      refine (List.map_map ..).trans (List.map_congr_left fun p _ => ?_)
      dsimp only [Function.comp]
      split <;> rfl

theorem runCommand_standLaw (c : Command) (l : Lines) (args : List Byte) (s : State) (hc : c ≠ .deviceReset) (hr : s.rightsLaw)
    (hs : s.standLaw) : (runCommand c l args s).2.standLaw := by
  have same {t : State} (h : t = s) : t.standLaw := h ▸ hs
  cases c
  case deviceReset => exact absurd rfl hc
  case tenantWrite =>
    rcases runTenantWrite_cases l.svckey args s with h | ⟨slot, d, -, -, h⟩
    · exact same h
    · rw [show (runCommand .tenantWrite l args s).2 = _ from h]
      exact State.standLaw_setTenant hs (.inl (TenantRecord.write_ne_free _ d))
  case tenantState =>
    rcases runTenantState_cases l.svckey args s with h | ⟨slot, new, -, -, hnew, h⟩
    · exact same h
    · rw [show (runCommand .tenantState l args s).2 = _ from h]
      exact (State.overlockChange_arms _ _ _ _).toArms.standLaw (State.standLaw_setTenant hs (.inl hnew))
  case tenantFree =>
    rcases runTenantFree_cases l.svckey s with h | ⟨slot, -, -, habsent, h⟩
    · exact same h
    · rw [show (runCommand .tenantFree l args s).2 = _ from h]
      exact (State.releaseUnits_arms _ _).standLaw (State.standLaw_setTenant hs (.inr habsent))
  case assignUnit =>
    rcases runAssignUnit_cases l.svckey args s with h | ⟨slot, u, -, huse, hnone, -, h⟩
    · exact same h
    · rw [show (runCommand .assignUnit l args s).2 = _ from h]
      have hunmarked : ¬(s.unit u).marked := fun hm => by
        obtain ⟨i, hi, -⟩ := hs.1 u hm
        exact nomatch hnone.symm.trans hi
      exact (State.loadUnit_arms slot (s.setTenant slot _) u hunmarked).standLaw (State.standLaw_setTenant hs (.inl huse))
  case releaseUnit =>
    rcases runReleaseUnit_cases l.svckey args s with h | ⟨slot, u, -, huse, -, h⟩
    · exact same h
    · rw [show (runCommand .releaseUnit l args s).2 = _ from h]
      exact (State.releaseUnit_arms _ u).standLaw (State.standLaw_setTenant hs (.inl huse))
  case unitFloor | unitService | unitAck | unitContact => exact (runCommand_arms _ l args s (by simp)).toArms.standLaw hs
  case presenceRemove =>
    rcases runPresenceRemove_cases args s with h | ⟨p, -, h⟩
    · exact same h
    · rw [show (runCommand .presenceRemove l args s).2 = _ from h]
      refine State.standLaw_of_exit hr.1 hs (s.removeByHand_only p .tenants rfl) ?_ (s.removeByHand_units p (hr.1.2 _).1)
      rw [← removePresence_eq]
      exact State.exitHandoff_only _ _ .roster rfl
  case overstayAck =>
    have ho := runCommand_only .overstayAck l args s
    exact State.standLaw_of_slots (ho .units rfl) (ho .tenants rfl) (runOverstayAck_slots args s) hs
  case setClock =>
    refine answer_keeps hs (State.standLaw_of_phase (s.setTime_only _) ?_ hs)
    exact State.evaluatePhase_slots _ _
  case passed => exact endByField_keeps hs fun n p _ _ _ => State.completePassage_standLaw hr hs n p
  case carAlight =>
    refine endByLift_keeps hs fun n t _ _ => ?_
    exact (State.setCarState_only _ n .idle).keeps State.standLaw_reads rfl
      (State.standLaw_of_completes hr.1 hs (s.complete_completes _ _ _ _ _ _ fun i => (hr.1.2 i).1))
  all_goals exact (runCommand_only _ l args s).keeps State.standLaw_reads rfl hs

/-- A committed record's slot is in use after, and its units, free before, are marked only where the slot's tenant is present. -/
theorem State.commitTenant_standLaw (hs : s.standLaw) {svckey : Bool} {target : Nat} {d : TenantDetails} {us : List Nat}
    (hskip : s.skipsTenant svckey target d us = false) : (s.commitTenant target d us).standLaw := by
  obtain ⟨-, -, -, -, hn, hnone⟩ := (s.skipsTenant_eq_false svckey target d us).1 hskip
  refine (State.loadUnits_arms target us _ hn fun u hu hm => ?_).standLaw
    (State.standLaw_setTenant hs (.inl (TenantRecord.write_ne_free _ d)))
  obtain ⟨i, hi, -⟩ := hs.1 u hm
  exact nomatch (hnone u hu).symm.trans hi

theorem State.takeRecord_standLaw (hs : s.standLaw) (svckey : Bool) : (s.takeRecord svckey).standLaw := by
  rcases s.takeRecord_cases svckey with h | ⟨r, rest, -, goes, es, h, -⟩
  · rw [h]
    exact hs
  · rw [h, State.logged_frame]
    show (s.examine svckey s.loader.nextTarget r).2.standLaw
    rcases s.examine_cases svckey s.loader.nextTarget r with h | ⟨f, h⟩ | ⟨d, us, -, hskip, h⟩
    · rw [h]
      exact hs
    · rw [h]
      exact Arms.standLaw (.setUnit fun hm => .inl ⟨hm, rfl⟩) hs
    · rw [h]
      exact State.commitTenant_standLaw hs hskip

theorem runEvent_standLaw (i : Instr) (hi : isReset i = false) (hr : s.rightsLaw) (hs : s.standLaw) : (runEvent i s).standLaw := by
  by_cases hm : meets [.tenants, .units, .roster] (eventParts i) = true
  · cases i
    case gateContactClose c =>
      show State.standLaw (if (s.channel c).gateOpen then s.gateClosed c else s)
      split
      · have hclosed := (s.channelClosed_only c).keeps State.standLaw_reads rfl hs
        have hclosed' := (s.channelClosed_only c).keeps State.rightsLaw_reads rfl hr
        exact State.gateClosed_keeps c hclosed fun n p _ _ => State.completePassage_standLaw hclosed' hclosed n p
      · exact hs
    case loaderExamine key => exact State.takeRecord_standLaw hs key
    case secondTick => exact State.standLaw_of_phase s.secondTick_only s.secondTick_slots hs
    case minuteTick => exact State.standLaw_of_phase s.minuteTick_only s.minuteTick_slots hs
    case pinReset | coldReset | retentionReset => exact nomatch hi
    all_goals exact nomatch hm
  · exact (runEvent_only i s).keeps State.standLaw_reads (by simpa using hm) hs

theorem State.accessLaw_reads : Reads (fun s => s.rightsLaw ∧ s.standLaw) [.tenants, .units, .loader, .roster] := fun s t h hs =>
  ⟨State.rightsLaw_reads s t (fun q hq => h q (Part.isIn_mono rfl hq)) hs.1,
    State.standLaw_reads s t (fun q hq => h q (Part.isIn_mono rfl hq)) hs.2⟩

/-- Every event keeps the laws of arming and presence beside those of the rights tables. -/
theorem exec_accessLaw (i : Instr) (s t : State) (hs : s.rightsLaw ∧ s.standLaw) (h : exec i s = .next t) :
    t.rightsLaw ∧ t.standLaw := by
  refine exec_keeps_resets State.accessLaw_reads
    (fun c l args s hc _ _ hs => ⟨runCommand_rightsLaw c l args s hc hs.1, runCommand_standLaw c l args s hc hs.1 hs.2⟩)
    (fun i s hi _ hs => ⟨runEvent_rightsLaw i hi hs.1, runEvent_standLaw i hi hs.1 hs.2⟩)
    (fun s p hs => ⟨⟨hs.1.1, hs.1.2.1, nofun⟩, hs.2⟩) (fun s hs => ?_) (i := i) (s := s) (t := t) (hs := hs) (h := h)
  refine ⟨⟨⟨fun u i => ?_, fun i => ⟨.nil, Nat.zero_le _⟩⟩, fun i _ => rfl, nofun⟩, fun u hm => ?_, nofun⟩
  · exact ⟨nofun, nofun⟩
  · rcases hm with harm | hvisit
    exacts [(nomatch harm), (nomatch hvisit)]

end

/-- Settles O49: the law of arming and presence, kept beside that of the rights tables. -/
theorem disarmedOnlyWhilePresent : Obligations.DisarmedOnlyWhilePresent := by
  intro i s t ⟨hpair, hfree, hbuffer, harming, hpresent⟩ h
  exact (exec_accessLaw i s t ⟨⟨hpair, hfree, hbuffer⟩, harming, hpresent⟩ h).2

end Sys2Proof.Machine
end

section
/-! The port engines (chapter 11): frames without effect, repeat mode, frames of several events, the status byte, and what a
refused command leaves. -/

namespace Sys2Proof.Machine

set_option Elab.async false -- one thread for the file, as in the tests: a thread for each theorem reaches the memory limit

/-! ### The status byte and the attention lines (R172, R173) -/

/-- Seven flags from bit 7 down to bit 1, and bit 0 set. -/
theorem status_bits : ∀ a b c d e f g : Bool,
    let x : Byte := BitVec.ofNat 8 ((if a then 0x80 else 0) + (if b then 0x40 else 0) + (if c then 0x20 else 0) +
      (if d then 0x10 else 0) + (if e then 0x08 else 0) + (if f then 0x04 else 0) + (if g then 0x02 else 0) + 1)
    x.getLsbD 7 = a ∧ x.getLsbD 6 = b ∧ x.getLsbD 5 = c ∧ x.getLsbD 4 = d ∧ x.getLsbD 3 = e ∧ x.getLsbD 2 = f ∧
      x.getLsbD 1 = g ∧ x.getLsbD 0 = true := by
  decide

theorem State.statusByte_bits (s : State) (p : Port) :
    (s.statusByte p).getLsbD 7 = (s.control.mode == .fallback) ∧ (s.statusByte p).getLsbD 6 = s.control.fireLatch ∧
      (s.statusByte p).getLsbD 5 = s.attention p ∧ (s.statusByte p).getLsbD 4 = (s.port p).repeating ∧
      (s.statusByte p).getLsbD 3 = (p == .office && s.loader.active) ∧
      (s.statusByte p).getLsbD 2 = (p == .office && s.window.isSome) ∧
      (s.statusByte p).getLsbD 1 = s.control.tableFault ∧ (s.statusByte p).getLsbD 0 = true := by
  have hbyte : s.statusByte p = BitVec.ofNat 8 ((if s.control.mode == .fallback then 0x80 else 0) +
      (if s.control.fireLatch then 0x40 else 0) + (if s.attention p then 0x20 else 0) +
      (if (s.port p).repeating then 0x10 else 0) + (if p == .office && s.loader.active then 0x08 else 0) +
      (if p == .office && s.window.isSome then 0x04 else 0) + (if s.control.tableFault then 0x02 else 0) + 1) := by
    unfold State.statusByte
    simp only [Bool.and_eq_true, beq_iff_eq, decide_eq_true_eq]
  rw [hbyte]
  exact status_bits (s.control.mode == .fallback) s.control.fireLatch (s.attention p) (s.port p).repeating
    (p == .office && s.loader.active) (p == .office && s.window.isSome) s.control.tableFault

section
variable {s t : State} {p : Port} {c : Command} {args more wire : List Byte} {l : Lines}

theorem State.frameDone_port (s : State) (p : Port) (r : ResultCode) (out : List Byte) (k : Nat) :
    (s.frameDone p r out k).port p = { s.port p with lastResult := r, assembly := none, out } := by cases p <;> rfl

/-- The first byte that a frame with a byte clocked shifts out is its status byte (R169). -/
theorem endFrame_head (fr : OpenFrame) (h : fr.wire ++ more ≠ []) :
    ((endFrame p l fr more s).port p).out.head? = some fr.status := by
  unfold endFrame
  dsimp only
  rw [if_neg h, State.frameDone_port]
  obtain ⟨b, bs, hb⟩ := List.exists_cons_of_ne_nil h
  simp only [hb, OpenFrame.shifted, shiftedOut, List.length_cons]
  rfl

theorem exec_whole_takes (h : s.takes p) :
    exec (frameInstr c (whole p args l)) s =
      .next (endFrame p l (newFrame p (commandCode c :: args) s) [] s) := by
  rw [exec_frameInstr, commandFrame, commandWire_coded h, frameEvent, if_pos h.1]
  rfl

end

/-- An unfetched flag set at one of `k` numbered items. -/
theorem any_range_iff {α : Type} (k : Nat) (f : Nat → Option α) (q : α → Bool) :
    ((List.range k).any fun n => (f n).any q) = true ↔ ∃ n < k, ∃ v, f n = some v ∧ q v = true := by
  simp [List.any_eq_true, Option.any_eq_true]

/-- Settles O6: bit by bit; the first byte out of a frame is the status byte it opened with. -/
theorem statusByteAndAttentionLines : Obligations.StatusByteAndAttentionLines := by
  refine ⟨fun s p => ?_, fun s => ⟨?_, any_range_iff .., any_range_iff .., fun p => ?_⟩⟩
  · obtain ⟨h7, h6, h5, h4, h3, h2, h1, h0⟩ := s.statusByte_bits p
    refine ⟨h7, h6, h5, h4, h3, h2, h1, h0, fun c l args t htakes h => ?_⟩
    obtain rfl := Host.Outcome.next.inj ((exec_whole_takes htakes).symm.trans h)
    exact endFrame_head _ (by simp [newFrame])
  · show (!s.log.records.isEmpty) = true ↔ _
    cases s.log.records <;> simp
  · simp [State.atn]

/-! ### Frames without effect (R169 to R171, R174) -/

section
variable {s t : State} {p : Port} {c : Command} {args more wire : List Byte} {l : Lines}

/-- No read needs more than two argument bytes (11.6). -/
theorem argumentBytes_read_le (hr : isRead c = true) (k : Loader) (args : List Byte) : argumentBytes c k args ≤ 2 := by
  cases c
  case readState | profileRead | tenantRead | unitRead | rosterRead | logRead | paramRead | channelRead | carFetch
    | verdictFetch => simp [argumentBytes]
  all_goals exact nomatch hr

/-- A frame too short for its read ends before the first free byte. -/
theorem shiftedOut_short (st : Byte) (last : ResultCode) (fill : List Byte) (n : Nat) (h : fill = [] ∨ n ≤ 2) :
    shiftedOut st last fill [] n = (st :: byteOf last.code :: List.replicate n 0xFF).take n := by
  rcases h with rfl | h
  · simp [shiftedOut]
  · rcases n with _ | _ | _ | n
    · rfl
    · rfl
    · rfl
    · omega

theorem commandOf_eq_some {code : Byte} (h : commandOf code = some c) : code = commandCode c := by
  have hcode : commandCode c = code := by simpa using List.find?_some h
  exact hcode.symm

/-- The free bytes of a frame whose read, if it is one, has not all its arguments. -/
theorem freeBytes_short (h : s.takes p) (ha : args.length < argumentBytes c s.loader args) :
    freeBytes s.fills (fillCount p (commandCode c :: args) s) = [] ∨ (commandCode c :: args).length ≤ 2 := by
  by_cases hread : isRead c = true
  · have := argumentBytes_read_le hread s.loader args
    exact .inr (by simp only [List.length_cons]; omega)
  · exact .inl (by simp [fillCount, h.2, hread, freeBytes])

/-- A frame that is no complete read samples nothing. -/
theorem frameSample_none (h : (s.port p).repeating = true ∨ isRead c = false ∨ permitted c p = false ∨
    args.length < argumentBytes c s.loader args) : frameSample p (commandCode c :: args) s = none := by
  unfold frameSample
  rcases h with h | h | h | h
  · simp [h]
  · simp [h]
  · simp [h]
  · simp [h]

theorem commandFrame_short (h : s.takes p) (hp : permitted c p = true) (ha : args.length < argumentBytes c s.loader args) :
    commandFrame c (whole p args l) s =
      { s.untaken p .short (args.length + 1) with fills := s.fills + fillCount p (commandCode c :: args) s } := by
  have hs : frameSample p (commandCode c :: args) s = none := frameSample_none (.inr (.inr (.inr ha)))
  have ho : (newFrame p (commandCode c :: args) s).shifted p (commandCode c :: args) s = s.reply p [] (args.length + 1) := by
    simp only [OpenFrame.shifted, OpenFrame.finalSample, newFrame, hs, Option.or_none]
    exact shiftedOut_short _ _ _ _ (freeBytes_short h ha)
  rw [commandFrame_whole h]
  simp only [hs, ho, takeCoded, commandOf_commandCode, hp, ha, Bool.not_true, Bool.false_eq_true, if_false, if_true]
  rfl

theorem commandFrame_unlisted {code : Byte} (h : s.takes p) (hcode : commandOf code = none) :
    frameEvent (whole p args l) (code :: args) s = s.untaken p .unknownCommand (args.length + 1) := by
  have hs : frameSample p (code :: args) s = none := by simp [frameSample, h.2, hcode]
  have hf : fillCount p (code :: args) s = 0 := by simp [fillCount, h.2, hcode]
  have ho : (newFrame p (code :: args) s).shifted p (code :: args) s = s.reply p [] (args.length + 1) := by
    simp [OpenFrame.shifted, OpenFrame.finalSample, newFrame, hs, hf, freeBytes, shiftedOut, State.reply]
  rw [frameEvent, if_pos h.1]
  show endFrame p l (newFrame p (code :: args) s) [] s = _
  rw [endFrame]
  simp only [show (newFrame p (code :: args) s).wire ++ [] = code :: args by simp [newFrame], ho, hf, reduceCtorEq, if_false,
    takeFrame, h.2, Bool.false_eq_true, takeCoded, hcode]
  exact State.frameDone_zero _ _ _ _

/-- A frame in repeat mode that begins with FF leaves the mode (R174). -/
theorem frameEvent_leaves (hrun : s.running = true) (hrep : (s.port p).repeating = true) (hff : byteAt wire 0 = 0xFF)
    (hne : wire ≠ []) :
    frameEvent (whole p args l) wire s = s.taken (s.setPort p { s.port p with repeating := false }) p .ok wire.length := by
  have hs : frameSample p wire s = none := by simp [frameSample, hrep]
  have hf : fillCount p wire s = 0 := by simp [fillCount, hrep]
  have ho : (newFrame p wire s).shifted p wire s = s.reply p [] wire.length := by
    simp [OpenFrame.shifted, OpenFrame.finalSample, newFrame, hs, hf, freeBytes, shiftedOut, State.reply]
  rw [frameEvent, if_pos hrun]
  show endFrame p l (newFrame p wire s) [] s = _
  rw [endFrame]
  simp only [show (newFrame p wire s).wire ++ [] = wire by simp [newFrame], ho, hf, hne, if_false, takeFrame, hrep, if_true,
    takeRepeat, hff]
  exact State.frameDone_zero _ _ _ _

/-- A frame that ends inside a byte, as the statements say it (R170): the frame that stands open, or one opened now, with what
it has sampled or samples with its last bytes. -/
theorem framingFrame_eq (fr : OpenFrame) (h : (s.port p).assembly.getD (newFrame p [] s) = fr) :
    framingFrame p more s =
      { s.setPort p
          { lastResult := .framing, repeating := false, assembly := none
            out := shiftedOut fr.status (s.port p).lastResult (freeBytes s.fills (fillCount p (fr.wire ++ more) s))
              (((fr.finalSample p (fr.wire ++ more) s).map (·.data)).getD []) (fr.wire ++ more).length } with
        fills := s.fills + fillCount p (fr.wire ++ more) s } := by
  unfold framingFrame
  dsimp only
  rw [h]
  unfold OpenFrame.shifted
  cases fr.finalSample p (fr.wire ++ more) s <;> cases p <;> rfl

end

/-- Settles O3: the checks of the port engine in their order, each with what the frame shifts out. -/
theorem framesWithoutEffect : Obligations.FramesWithoutEffect := by
  refine ⟨fun s p l args => ⟨fun h c hp => ?_, fun h c hp ha => ?_, fun h code hcode => ?_⟩, fun s p wire hrun => ?_,
    fun s p l args => ⟨fun h => ?_, fun h => ?_, fun hrun hrep => ⟨?_, ?_⟩⟩⟩
  · rw [exec_frameInstr, commandFrame_notPermitted h hp]
    rfl
  · exact ⟨_, (exec_frameInstr _ _ _).trans (congrArg Host.Outcome.next (commandFrame_short h hp ha))⟩
  · exact congrArg Host.Outcome.next (commandFrame_unlisted h (by simpa [unlistedCode] using hcode))
  · intro ended
    have hexec : exec (.framing p wire) s = .next (framingFrame p wire s) := congrArg Host.Outcome.next (if_pos hrun)
    refine ⟨fun hnone => ?_, fun c args st m hfr h hr hp => ?_⟩
    · have hnew := framingFrame_eq (s := s) (p := p) (more := wire) (newFrame p [] s) (by rw [hnone]; rfl)
      have hsample : (newFrame p [] s).finalSample p wire s = frameSample p wire s := by
        have : frameSample p [] s = none := by unfold frameSample; split <;> rfl
        simp [OpenFrame.finalSample, newFrame, this]
      rw [show (newFrame p [] s).wire ++ wire = wire from rfl, hsample] at hnew
      refine ⟨fun hshort => ?_, fun c args hwire h hr hp ha => ?_⟩
      · refine ⟨s.fills + fillCount p wire s, hexec.trans (congrArg Host.Outcome.next (hnew.trans ?_))⟩
        have hout : frameSample p wire s = none ∧
            (freeBytes s.fills (fillCount p wire s) = [] ∨ wire.length ≤ 2) := by
          cases hrep : (s.port p).repeating with
          | true => exact ⟨by simp [frameSample, hrep], .inl (by simp [fillCount, hrep, freeBytes])⟩
          | false =>
            cases wire with
            | nil => exact ⟨by simp [frameSample], .inr (Nat.zero_le _)⟩
            | cons code args =>
              cases hcode : commandOf code with
              | none => exact ⟨by simp [frameSample, hcode], .inl (by simp [fillCount, hcode, freeBytes])⟩
              | some c =>
                obtain rfl := commandOf_eq_some hcode
                have hc := hshort c args rfl
                refine ⟨frameSample_none hc, ?_⟩
                rcases hc with hc | hc | hc | hc
                · exact absurd (hrep.symm.trans hc) nofun
                · exact .inl (by simp [fillCount, hc, freeBytes])
                · exact .inl (by simp [fillCount, hc, freeBytes])
                · exact freeBytes_short ⟨hrun, hrep⟩ hc
        rw [hout.1, Option.map_none, Option.getD_none, shiftedOut_short _ _ _ _ hout.2]
        rfl
      · subst hwire
        refine ⟨freeBytes s.fills (argumentBytes c s.loader args - 1), s.fills + fillCount p (commandCode c :: args) s,
          by simp [freeBytes], hexec.trans (congrArg Host.Outcome.next (hnew.trans ?_))⟩
        rw [frameSample_coded h, if_pos ⟨hr, hp, ha⟩, fillCount_read h hr hp]
        rfl
    · have hopen := framingFrame_eq (s := s) (p := p) (more := wire)
        { wire := commandCode c :: args, status := st, sample := some m } (by rw [hfr]; rfl)
      refine ⟨freeBytes s.fills (argumentBytes c s.loader (args ++ wire) - 1),
        s.fills + fillCount p (commandCode c :: (args ++ wire)) s, by simp [freeBytes],
        hexec.trans (congrArg Host.Outcome.next (hopen.trans ?_))⟩
      simp only [List.cons_append, OpenFrame.finalSample, Option.some_or, fillCount_read h hr hp, List.length_cons,
        List.length_append]
      rw [show args.length + wire.length + 1 = args.length + 1 + wire.length by omega]
      rfl
  · exact exec_write .null h rfl rfl (Nat.zero_le _) (by cases p <;> nofun)
  · cases p with
    | office => exact (exec_frameInstr .repeatEnd _ _).trans (congrArg Host.Outcome.next (commandFrame_notPermitted h rfl))
    | lift => exact exec_write .repeatEnd h rfl rfl (Nat.zero_le _) nofun
    | field => exact exec_write .repeatEnd h rfl rfl (Nat.zero_le _) nofun
  · exact congrArg Host.Outcome.next (frameEvent_leaves (wire := 0xFF :: args) hrun hrep rfl (List.cons_ne_nil _ _))
  · have hwire : commandWire .repeatEnd (whole p args l) s = 0xFF :: args := by
      unfold commandWire
      rw [if_neg (by cases p <;> simp [repeatCommand])]
      rfl
    show Host.Outcome.next (frameEvent _ (commandWire .repeatEnd (whole p args l) s) s) = _
    rw [hwire]
    rfl

/-! ### Repeat mode (R174) -/

section
variable {s : State} {p : Port} {c : Command} {args : List Byte} {l : Lines}

/-- A whole frame of a port's repeat command in repeat mode, which is sent without its code. -/
theorem exec_repeated (hrun : s.running = true) (hrep : (s.port p).repeating = true) (hc : repeatCommand p = some c)
    (hff : byteAt args 0 ≠ 0xFF) (hne : args ≠ []) :
    exec (frameInstr c (whole p args l)) s =
      if args.length < argumentBytes c s.loader args then .next (s.untaken p .short args.length)
      else .next (s.taken (runCommand c l args s).2 p (runCommand c l args s).1 args.length) := by
  have hwire : commandWire c (whole p args l) s = args := if_pos ⟨hrep, hc⟩
  have hs : frameSample p args s = none := by simp [frameSample, hrep]
  have hf : fillCount p args s = 0 := by simp [fillCount, hrep]
  have ho : (newFrame p args s).shifted p args s = s.reply p [] args.length := by
    simp [OpenFrame.shifted, OpenFrame.finalSample, newFrame, hs, hf, freeBytes, shiftedOut, State.reply]
  rw [exec_frameInstr, commandFrame, hwire, frameEvent, if_pos hrun]
  show Host.Outcome.next (endFrame p l (newFrame p args s) [] s) = _
  rw [endFrame]
  simp only [show (newFrame p args s).wire ++ [] = args by simp [newFrame], ho, hf, hne, if_false, takeFrame, hrep, if_true,
    takeRepeat, hff, hc]
  split
  · exact congrArg Host.Outcome.next (State.frameDone_zero _ _ _ _)
  · exact congrArg Host.Outcome.next (State.frameDone_zero _ _ _ _)

/-- Any other command's frame in repeat mode is read, code and all, as the repeat command's arguments. -/
theorem exec_read_as_repeated {d : Command} (hrep : (s.port p).repeating = true) (hc : repeatCommand p = some c)
    (hd : d ≠ c) :
    exec (frameInstr d (whole p args l)) s = exec (frameInstr c (whole p (commandCode d :: args) l)) s := by
  have hwire : commandWire d (whole p args l) s = commandCode d :: args :=
    if_neg fun h => hd (Option.some.inj (h.2.symm.trans hc))
  have hwire' : commandWire c (whole p (commandCode d :: args) l) s = commandCode d :: args := if_pos ⟨hrep, hc⟩
  rw [exec_frameInstr, exec_frameInstr, commandFrame, commandFrame, hwire, hwire']
  rfl

theorem exec_unknown_as_repeated {code : Byte} (hrep : (s.port p).repeating = true) (hc : repeatCommand p = some c) :
    exec (.unknownCommand code (whole p args l)) s = exec (frameInstr c (whole p (code :: args) l)) s := by
  have hwire : commandWire c (whole p (code :: args) l) s = code :: args := if_pos ⟨hrep, hc⟩
  rw [exec_frameInstr, commandFrame, hwire]
  rfl

/-- PRESENT does not look at the FIELD port's record, nor CAR QUERY at LIFT's. -/
theorem runPresent_field (args : List Byte) (s : State) (v : PortState) :
    runPresent args (s.setPort .field v) = ((runPresent args s).1, (runPresent args s).2.setPort .field v) := by
  cases hc : credentialOf (byteAt args 1) (longAt args 2) with
  | none => rw [runPresent_invalid hc, runPresent_invalid hc]
  | some c =>
    rw [runPresent_valid hc, runPresent_valid hc]
    dsimp only
    simp only [show ∀ n, (s.setPort .field v).station n = s.station n from fun _ => rfl,
      show ∀ n, (s.setPort .field v).mapType n = s.mapType n from fun _ => rfl]
    split_ifs <;> rfl

theorem runCarQuery_lift (args : List Byte) (s : State) (v : PortState) :
    runCarQuery args (s.setPort .lift v) = ((runCarQuery args s).1, (runCarQuery args s).2.setPort .lift v) := by
  cases hc : credentialOf (byteAt args 1) (longAt args 2) with
  | none => rw [runCarQuery_invalid hc, runCarQuery_invalid hc]
  | some c =>
    rw [runCarQuery_valid hc, runCarQuery_valid hc]
    dsimp only
    simp only [show ∀ n, (s.setPort .lift v).car n = s.car n from fun _ => rfl]
    split_ifs <;> rfl

/-- What the repeat command's frame with its code leaves outside repeat mode, and the frame without it in repeat mode, differ in
the mode and in the bytes shifted out. -/
theorem repeated_eq_coded (e : ResultCode × State) (hport : e.2.port p = s.port p) (hrep : (s.port p).repeating = true)
    (n : Nat) (out : List Byte) :
    let v := { s.port p with repeating := false }
    let t := ((e.2.setPort p v).enterRepeat p c args e.1).close p e.1 out
    s.taken e.2 p e.1 n = t.setPort p { t.port p with repeating := true, out := s.reply p [] n } := by
  intro v t
  have hv : (e.2.setPort p v).port p = v := State.setPort_port_same _ _ _
  have ht (b : Bool) : ((e.2.setPort p v).setPort p { v with repeating := b }).close p e.1 out =
      e.2.setPort p { s.port p with lastResult := e.1, repeating := b, assembly := none, out } := by
    unfold State.close
    rw [State.setPort_setPort, State.setPort_setPort, State.setPort_port_same]
  have hcases : ∃ b, t = e.2.setPort p { s.port p with lastResult := e.1, repeating := b, assembly := none, out } := by
    by_cases hc : repeatCommand p = some c ∧ e.1 = .ok ∧ repeatFlag (byteAt args 0)
    · refine ⟨true, ?_⟩
      rw [← ht true]
      show State.close (State.enterRepeat _ p c args e.1) p e.1 out = _
      rw [State.enterRepeat, if_pos hc, hv]
    · refine ⟨false, ?_⟩
      rw [← ht false]
      show State.close (State.enterRepeat _ p c args e.1) p e.1 out = _
      rw [State.enterRepeat, if_neg hc, State.setPort_setPort]
  obtain ⟨b, hb⟩ := hcases
  rw [hb, State.setPort_port_same, State.setPort_setPort]
  unfold State.taken State.close
  rw [hport, ← hrep]

end

/-- Settles O4: a frame in repeat mode is the repeat command's arguments; its block does not look at the port. -/
theorem repeatModeFramesActAsCoded : Obligations.RepeatModeFramesActAsCoded := by
  refine ⟨fun s l args hrun => ⟨fun hrep => ⟨fun c hc _ => ?_, fun code _ => ?_⟩, fun hrep => ⟨fun c hc _ => ?_, fun code _ => ?_⟩⟩,
    fun s l args hrun hff hne => ⟨fun hrep => ?_, fun hrep => ?_⟩⟩
  · exact exec_read_as_repeated (p := .field) (c := .present) hrep rfl hc
  · exact exec_unknown_as_repeated (p := .field) (c := .present) hrep rfl
  · exact exec_read_as_repeated (p := .lift) (c := .carQuery) hrep rfl hc
  · exact exec_unknown_as_repeated (p := .lift) (c := .carQuery) hrep rfl
  · have hexec := exec_repeated (l := l) (p := .field) (c := .present) hrun hrep rfl hff hne
    refine ⟨fun hshort => hexec.trans (if_pos hshort), fun ha => ?_⟩
    let v := { s.field with repeating := false }
    have htakes : (s.setPort .field v).takes .field := ⟨hrun, rfl⟩
    have hcoded := commandFrame_write (c := .present) (l := l) htakes rfl rfl ha
    rw [show runCommand .present l args (s.setPort .field v) = _ from runPresent_field args s v] at hcoded
    refine ⟨_, (exec_frameInstr .present _ _).trans (congrArg Host.Outcome.next hcoded), ?_⟩
    refine (hexec.trans (if_neg (Nat.not_lt.2 ha))).trans (congrArg Host.Outcome.next ?_)
    show s.taken (runPresent args s).2 .field (runPresent args s).1 args.length = _
    have hport : (runPresent args s).2.port .field = s.port .field := (runCommand_only .present l args s .ports rfl).2.1
    rw [repeated_eq_coded (c := .present) (args := args) (runPresent args s) hport hrep args.length
      ((s.setPort .field v).reply .field [] (args.length + 1))]
    rfl
  · have hexec := exec_repeated (l := l) (p := .lift) (c := .carQuery) hrun hrep rfl hff hne
    refine ⟨fun hshort => hexec.trans (if_pos hshort), fun ha => ?_⟩
    let v := { s.lift with repeating := false }
    have htakes : (s.setPort .lift v).takes .lift := ⟨hrun, rfl⟩
    have hcoded := commandFrame_write (c := .carQuery) (l := l) htakes rfl rfl ha
    rw [show runCommand .carQuery l args (s.setPort .lift v) = _ from runCarQuery_lift args s v] at hcoded
    refine ⟨_, (exec_frameInstr .carQuery _ _).trans (congrArg Host.Outcome.next hcoded), ?_⟩
    refine (hexec.trans (if_neg (Nat.not_lt.2 ha))).trans (congrArg Host.Outcome.next ?_)
    show s.taken (runCarQuery args s).2 .lift (runCarQuery args s).1 args.length = _
    have hport : (runCarQuery args s).2.port .lift = s.port .lift := (runCommand_only .carQuery l args s .ports rfl).1
    rw [repeated_eq_coded (c := .carQuery) (args := args) (runCarQuery args s) hport hrep args.length
      ((s.setPort .lift v).reply .lift [] (args.length + 1))]
    rfl

/-! ### Frames of several events (R169, R170; assumption log 3) -/

section
variable {s : State} {p : Port} {c : Command} {args more : List Byte} {l : Lines}

theorem frameSample_nil (p : Port) (s : State) : frameSample p [] s = none := by
  unfold frameSample
  split <;> rfl

theorem exec_opening (h : s.running = true) :
    exec (frameInstr c { port := p, bytes := args, part := .opening, lines := l }) s =
      .next (s.holdFrame p (newFrame p (commandWire c { port := p, bytes := args, part := .opening, lines := l } s) s)) := by
  rw [exec_frameInstr, commandFrame, frameEvent, if_pos h]
  rfl

theorem exec_select (h : s.running = true) :
    exec (frameInstr c { port := p, bytes := args, part := .select, lines := l }) s = .next (s.holdFrame p (newFrame p [] s)) := by
  rw [exec_frameInstr, commandFrame, frameEvent, if_pos h]
  rfl

theorem closeFrame_open {fr : OpenFrame} (h : (s.port p).assembly = some fr) : closeFrame p l more s = endFrame p l fr more s := by
  simp only [closeFrame, h]

theorem clockFrame_open {fr : OpenFrame} {first : List Byte} (h : (s.port p).assembly = some fr) :
    clockFrame p first more s = s.holdFrame p (fr.clocked p (if fr.wire = [] then first else fr.wire ++ more) s) := by
  simp only [clockFrame, h]

/-- Only LOG READ, VERDICT FETCH and CAR FETCH do anything at the end of their frame. -/
theorem endRead_plain (h₁ : c ≠ .logRead) (h₂ : c ≠ .verdictFetch) (h₃ : c ≠ .carFetch) (n : Nat) (m : Sample) (s : State) :
    endRead c n m s = s := by
  cases c
  case logRead => exact absurd rfl h₁
  case verdictFetch => exact absurd rfl h₂
  case carFetch => exact absurd rfl h₃
  all_goals rfl

/-- The end of a read does not look at the frame that stands open. -/
theorem endRead_hold (c : Command) (n : Nat) (m : Sample) (s : State) (p : Port) (a : Option OpenFrame) :
    endRead c n m (s.setPort p { s.port p with assembly := a }) =
      (endRead c n m s).setPort p { (endRead c n m s).port p with assembly := a } := by
  cases c
  case verdictFetch =>
    show (match m.fetch with | some n => _ | none => _) = _
    cases hf : m.fetch with
    | none => simp only [endRead, hf]
    | some k =>
      simp only [endRead, hf, State.clearVerdict, State.setPort_station]
      cases (s.station k).verdict <;> cases p <;> rfl
  case carFetch =>
    show (match m.fetch with | some n => _ | none => _) = _
    cases hf : m.fetch with
    | none => simp only [endRead, hf]
    | some k =>
      simp only [endRead, hf, State.clearCarVerdict, State.setPort_car]
      cases (s.car k).verdict <;> cases p <;> rfl
  all_goals cases p <;> rfl

theorem State.close_hold (s : State) (p : Port) (a : Option OpenFrame) (r : ResultCode) (out : List Byte) (k : Nat) :
    ({ (s.setPort p { s.port p with assembly := a }).close p r out with fills := k } : State) =
      { s.close p r out with fills := k } := by
  cases p <;> rfl

/-- The end of a read whose arguments are complete, sampled before or with its last bytes. -/
theorem closeFrame_read {st : Byte} {o : Option Sample} (h : s.takes p) (hr : isRead c = true) (hp : permitted c p = true)
    (ha : argumentBytes c s.loader (args ++ more) ≤ (args ++ more).length)
    (hm : (s.port p).assembly = some { wire := commandCode c :: args, status := st, sample := o }) :
    closeFrame p l more s =
      let m := o.getD (sampleOf c (args ++ more) s)
      let n := (args ++ more).length + 1
      let k := argumentBytes c s.loader (args ++ more) - 1
      let t := if m.result = .ok then endRead c n m s else s
      { t.close p m.result (shiftedOut st (s.port p).lastResult (freeBytes s.fills k) m.data n) with fills := t.fills + k } := by
  have hsample : o.or (frameSample p (commandCode c :: (args ++ more)) s) = some (o.getD (sampleOf c (args ++ more) s)) := by
    rw [frameSample_coded h, if_pos ⟨hr, hp, ha⟩]
    cases o <;> rfl
  have htake (m : Sample) : takeFrame p l (commandCode c :: (args ++ more)) (some m) s =
      if m.result = .ok then (.ok, endRead c ((args ++ more).length + 1) m s) else (m.result, s) := by
    simp only [takeFrame, h.2, takeCoded, commandOf_commandCode, hp, Nat.not_lt.2 ha, hr, takeRead]
    rfl
  rw [closeFrame_open hm]
  simp only [endFrame, List.cons_append, OpenFrame.finalSample, OpenFrame.shifted, hsample, fillCount_read h hr hp,
    List.length_cons, htake, reduceCtorEq, if_false]
  split <;> simp [State.frameDone_eq, *]

/-- The end of a read whose arguments never came. -/
theorem closeFrame_short {st : Byte} (h : s.takes p) (hp : permitted c p = true)
    (ha : (args ++ more).length < argumentBytes c s.loader (args ++ more))
    (hm : (s.port p).assembly = some { wire := commandCode c :: args, status := st, sample := none }) :
    closeFrame p l more s =
      { s.close p .short ((st :: byteOf (s.port p).lastResult.code :: List.replicate ((args ++ more).length + 1) 0xFF).take
          ((args ++ more).length + 1)) with
        fills := s.fills + fillCount p (commandCode c :: (args ++ more)) s } := by
  have hsample : frameSample p (commandCode c :: (args ++ more)) s = none := frameSample_none (.inr (.inr (.inr ha)))
  have hout := shiftedOut_short st (s.port p).lastResult (freeBytes s.fills (fillCount p (commandCode c :: (args ++ more)) s))
    ((args ++ more).length + 1) (freeBytes_short h ha)
  rw [closeFrame_open hm, ← hout]
  simp only [endFrame, List.cons_append, OpenFrame.finalSample, OpenFrame.shifted, hsample, Option.or_none, takeFrame, h.2,
    takeCoded, commandOf_commandCode, hp, ha, Bool.not_true, Bool.false_eq_true, reduceCtorEq, if_false, if_true,
    List.length_cons]
  rfl

/-- The closing of a frame acts as the whole frame of its bytes; only its status byte is of the opening. -/
theorem endFrame_of_opened {st : Byte} {wire : List Byte} (hne : wire ≠ []) :
    endFrame p l { wire, status := st, sample := none } more s =
      let t := endFrame p l (newFrame p (wire ++ more) s) [] s
      t.setPort p { t.port p with out := st :: (t.port p).out.tail } := by
  have hwire : (newFrame p (wire ++ more) s).wire ++ [] = wire ++ more := List.append_nil _
  have hsample : (newFrame p (wire ++ more) s).finalSample p (wire ++ more) s = frameSample p (wire ++ more) s := by
    simp only [OpenFrame.finalSample, newFrame]
    cases frameSample p (wire ++ more) s <;> rfl
  have hne' : wire ++ more ≠ [] := by simp [hne]
  unfold endFrame OpenFrame.shifted
  dsimp only
  rw [hwire, if_neg hne', if_neg hne', hsample]
  simp only [OpenFrame.finalSample, Option.none_or, newFrame]
  obtain ⟨b, bs, hb⟩ := List.exists_cons_of_ne_nil hne'
  rw [hb]
  cases p <;> rfl

theorem clocked_coded {st : Byte} {wire : List Byte} (h : s.takes p) :
    s.holdFrame p (OpenFrame.clocked { wire, status := st, sample := none } p (commandCode c :: args) s) =
      s.setPort p { s.port p with
        assembly := some { wire := commandCode c :: args, status := st
                           sample := if isRead c = true ∧ permitted c p = true ∧ argumentBytes c s.loader args ≤ args.length
                             then some (sampleOf c args s) else none } } := by
  rw [← frameSample_coded h]
  rfl

end

/-- Settles O5: the opening samples, the closing shifts out the sample or acts, and the events between only hold the frame. -/
theorem framesSampleAtTheirOpeningAndActAtTheirEnd : Obligations.FramesSampleAtTheirOpeningAndActAtTheirEnd := by
  refine ⟨fun s p l c args more hr hp h => ⟨⟨frameSample p (commandCode c :: args) s, ?_, fun ha => ?_, fun ha => ?_⟩,
    fun st m hm ha h₁ h₂ h₃ => ?_, fun st hm => ?_⟩, fun s p l c args more st hr h hm => ?_,
    fun s t p l c args hrun => ⟨fun hopen => ?_, fun fr hfr hne hclose => ?_⟩, fun s p l c d args more st => ?_⟩
  · rw [exec_opening h.1, commandWire, if_neg (by simp [h.2])]
    rfl
  · rw [frameSample_coded h, if_pos ⟨hr, hp, ha⟩]
  · exact frameSample_none (.inr (.inr (.inr ha)))
  · have hexec := exec_closing_sampled (more := more) (l := l) h hr hp ha hm
    simp only [endRead_plain h₁ h₂ h₃, ite_self] at hexec
    exact ⟨freeBytes s.fills (argumentBytes c s.loader args - 1), s.fills + (argumentBytes c s.loader args - 1),
      by simp [freeBytes], hexec⟩
  · intro e
    have he (s' : State) (h' : s'.running = true) : e s' = .next (closeFrame p l more s') := exec_closing h'
    refine ⟨fun ha => ?_, fun ha => ?_⟩
    · generalize hs' : s.setPort p { s.port p with assembly := some _ } = s'
      have htakes : s'.takes p := by
        rw [← hs']
        exact ⟨by rw [State.setPort_running]; exact h.1, by rw [State.setPort_port_same]; exact h.2⟩
      have hloader : s'.loader = s.loader := by rw [← hs', State.setPort_loader]
      have hm' : (s'.port p).assembly =
          some { wire := commandCode c :: args, status := st, sample := some (sampleOf c (args ++ more) s) } := by
        rw [← hs', State.setPort_port_same]
      rw [he s h.1, he s' htakes.1, closeFrame_read h hr hp ha hm, closeFrame_read htakes hr hp (by rw [hloader]; exact ha) hm',
        hloader, ← hs']
      simp only [Option.getD_none, Option.getD_some, State.setPort_port_same, State.setPort_fills, endRead_hold]
      split <;> simp only [State.setPort_fills, State.close_hold]
    · exact ⟨_, (he s h.1).trans (congrArg Host.Outcome.next (closeFrame_short h hp ha hm))⟩
  · refine ⟨_, exec_whole_takes h, ?_⟩
    rw [exec_closing h.1, closeFrame_open hm, endFrame_of_opened (List.cons_ne_nil _ _)]
    rfl
  · obtain rfl := Host.Outcome.next.inj ((exec_opening hrun).symm.trans hopen)
    exact ⟨_, by rw [State.holdFrame, State.setPort_port_same], rfl⟩
  · obtain rfl := Host.Outcome.next.inj ((exec_closing hrun).symm.trans hclose)
    rw [closeFrame_open hfr]
    exact endFrame_head fr (by simp [hne])
  · intro held reads clock
    have hclock (hrun : s.running = true) (d : Command) : clock d = .next (clockFrame p _ more s) := exec_middle hrun
    refine ⟨fun hrun hst => ?_, fun hrun hnone => ?_, fun h hm => ?_, fun h hm => ?_, fun hrun hm => ?_, fun m hrun hm => ?_⟩
    · rw [exec_select hrun, newFrame, frameSample_nil, ← hst]
      rfl
    · rw [hclock hrun, clockFrame, hnone]
    · rw [hclock h.1, clockFrame_open hm, if_pos rfl, commandWire, if_neg (by simp [h.2])]
      exact congrArg Host.Outcome.next (clocked_coded h)
    · rw [hclock h.1, clockFrame_open hm, if_neg (List.cons_ne_nil _ _)]
      exact congrArg Host.Outcome.next (clocked_coded h)
    · rw [exec_closing hrun, closeFrame_open hm, endFrame]
      rfl
    · rw [hclock hrun, clockFrame_open hm, if_neg (List.cons_ne_nil _ _)]
      rfl

/-! ### What a refused command leaves (R170) -/

theorem answer_kept (checks : List (Bool × ResultCode)) (s effect : State) :
    (answer checks s effect).2 = s ∨ (answer checks s effect).1 = .ok :=
  (answer_cases checks s effect).imp_right (congrArg Prod.fst)

theorem runFieldEnd_kept (args : List Byte) (s : State) (act : Nat → Passage → State) :
    (endByField args s act).2 = s ∨ (endByField args s act).1 = .ok := by
  unfold endByField
  dsimp only
  split
  · exact .inl rfl
  · split
    exacts [.inl rfl, .inr rfl]

theorem runLiftEnd_kept (args : List Byte) (s : State) (act : Nat → Trip → State) :
    (endByLift args s act).2 = s ∨ (endByLift args s act).1 = .ok := by
  unfold endByLift
  dsimp only
  split
  · exact .inl rfl
  · split
    exacts [.inr rfl, .inl rfl]

theorem runUnitContact_kept (args : List Byte) (s : State) :
    (runUnitContact args s).2 = s ∨ (runUnitContact args s).1 = .ok := by
  unfold runUnitContact
  dsimp only
  split
  exacts [.inl rfl, answer_kept _ _ _]

theorem runUnitAck_kept (args : List Byte) (s : State) : (runUnitAck args s).2 = s ∨ (runUnitAck args s).1 = .ok := by
  unfold runUnitAck
  dsimp only
  split
  · exact .inl rfl
  · split
    · split
      exacts [.inl rfl, .inr rfl]
    · exact .inl rfl

theorem runUnitService_kept (args : List Byte) (s : State) :
    (runUnitService args s).2 = s ∨ (runUnitService args s).1 = .ok := by
  unfold runUnitService
  dsimp only
  split
  exacts [.inl rfl, answer_kept _ _ _]

theorem runTenantWrite_kept (svckey : Bool) (args : List Byte) (s : State) :
    (runTenantWrite svckey args s).2 = s ∨ (runTenantWrite svckey args s).1 = .ok := by
  unfold runTenantWrite
  split
  exacts [.inl rfl, answer_kept _ _ _]

theorem runTenantState_kept (svckey : Bool) (args : List Byte) (s : State) :
    (runTenantState svckey args s).2 = s ∨ (runTenantState svckey args s).1 = .ok := by
  unfold runTenantState
  split
  exacts [.inl rfl, answer_kept _ _ _]

theorem runProfileWrite_kept (args : List Byte) (s : State) :
    (runProfileWrite args s).2 = s ∨ (runProfileWrite args s).1 = .ok := by
  unfold runProfileWrite
  split
  exacts [.inl rfl, answer_kept _ _ _]

theorem runPresenceRemove_kept (args : List Byte) (s : State) :
    (runPresenceRemove args s).2 = s ∨ (runPresenceRemove args s).1 = .ok := by
  unfold runPresenceRemove
  split
  · exact .inl rfl
  · split
    exacts [.inl rfl, .inr rfl]

theorem runOverstayAck_kept (args : List Byte) (s : State) :
    (runOverstayAck args s).2 = s ∨ (runOverstayAck args s).1 = .ok := by
  unfold runOverstayAck
  dsimp only
  split
  · exact .inl rfl
  · split
    exacts [.inl rfl, answer_kept _ _ _]

theorem runPresent_kept (args : List Byte) (s : State) : (runPresent args s).2 = s ∨ (runPresent args s).1 = .ok := by
  unfold runPresent
  dsimp only
  split
  exacts [.inl rfl, answer_kept _ _ _]

theorem runCarQuery_kept (args : List Byte) (s : State) : (runCarQuery args s).2 = s ∨ (runCarQuery args s).1 = .ok := by
  unfold runCarQuery
  dsimp only
  split
  exacts [.inl rfl, answer_kept _ _ _]

theorem runLoadBegin_kept (args : List Byte) (s : State) : (runLoadBegin args s).2 = s ∨ (runLoadBegin args s).1 = .ok := by
  unfold runLoadBegin
  dsimp only
  split
  exacts [.inl rfl, answer_kept _ _ _]

theorem runLoadData_kept (args : List Byte) (s : State) : (runLoadData args s).2 = s ∨ (runLoadData args s).1 = .ok := by
  unfold runLoadData
  dsimp only
  split
  · exact .inl rfl
  · split
    exacts [.inl rfl, answer_kept _ _ _]

/-- A block whose result is not OK has changed nothing, but for the sum that PARAM CLOSE finds bad (R156). -/
theorem runCommand_kept (c : Command) (l : Lines) (args : List Byte) (s : State) (hc : c ≠ .paramClose) :
    (runCommand c l args s).2 = s ∨ (runCommand c l args s).1 = .ok := by
  cases c
  case paramClose => exact absurd rfl hc
  case profileWrite => exact runProfileWrite_kept args s
  case tenantWrite => exact runTenantWrite_kept _ args s
  case tenantState => exact runTenantState_kept _ args s
  case findTenant => exact runFindTenant_cases args s
  case unitService => exact runUnitService_kept args s
  case unitAck => exact runUnitAck_kept args s
  case unitContact => exact runUnitContact_kept args s
  case presenceRemove => exact runPresenceRemove_kept args s
  case overstayAck => exact runOverstayAck_kept args s
  case loadBegin => exact runLoadBegin_kept args s
  case loadData => exact runLoadData_kept args s
  case present => exact runPresent_kept args s
  case carQuery => exact runCarQuery_kept args s
  case passed | noPassage => exact runFieldEnd_kept args s _
  case carAlight | carCancel => exact runLiftEnd_kept args s _
  case null | readState | profileRead | tenantRead | unitRead | rosterRead | logRead | paramRead | channelRead | carFetch
    | verdictFetch | fallbackEnter | deviceReset | repeatEnd => exact .inr rfl
  case setClock | selectTenant | tenantFree | assignUnit | releaseUnit | unitFloor | loadAbort | paramOpen | paramWrite
    | gatePulse | fireClear | fallbackRelease | stationOnline | stationOffline => exact answer_kept _ _ _

theorem runParamClose_kept (s : State) :
    (runParamClose s).2 = s ∨ (runParamClose s).1 = .ok ∨ (runParamClose s).1 = .sumBad := by
  unfold runParamClose
  split
  · exact .inl rfl
  · cases s.blockGood
    exacts [.inr (.inr rfl), .inr (.inl rfl)]

section
variable {s : State} {p : Port} {c : Command} {args : List Byte} {l : Lines}

/-- What a frame that is taken may answer when it has changed anything. -/
def KeptUnlessTaken (c : Command) (s : State) (e : ResultCode × State) : Prop :=
  e.2 = s ∨ e.1 = .ok ∨ (c = .paramClose ∧ e.1 = .sumBad)

theorem takeCoded_kept (m : Option Sample) : KeptUnlessTaken c s (takeCoded p l (commandCode c) args m s) := by
  have hrun : KeptUnlessTaken c s (runCommand c l args s) := by
    by_cases hc : c = .paramClose
    · subst hc
      exact (runParamClose_kept s).imp_right (·.imp_right fun h => ⟨rfl, h⟩)
    · exact (runCommand_kept c l args s hc).imp_right .inl
  unfold takeCoded
  rw [commandOf_commandCode]
  dsimp only
  split
  · exact .inl rfl
  split
  · exact .inl rfl
  split
  · unfold takeRead
    split
    · exact .inl rfl
    · split
      exacts [.inr (.inl rfl), .inl rfl]
  · refine Classical.byCases (fun hok : (runCommand c l args s).1 = .ok => .inr (.inl hok)) fun hok => ?_
    rw [State.enterRepeat, if_neg fun h => hok h.2.1]
    exact hrun

theorem takeRepeat_kept (wire : List Byte) : KeptUnlessTaken c s (takeRepeat p l wire s) := by
  unfold takeRepeat
  split
  · exact .inr (.inl rfl)
  split
  · exact .inl rfl
  case h_2 d hd =>
    split
    · exact .inl rfl
    · exact (runCommand_kept d l wire s (by cases p <;> cases hd <;> nofun)).imp_right .inl

theorem takeFrame_kept (m : Option Sample) : KeptUnlessTaken c s (takeFrame p l (commandWire c (whole p args l) s) m s) := by
  unfold takeFrame
  split
  · exact takeRepeat_kept _
  case isFalse h =>
    rw [commandWire, if_neg fun hw => h hw.1]
    exact takeCoded_kept m

end

/-- Settles O60: every check of the port engine and of the blocks comes before any change. -/
theorem refusedCommandsChangeNothing : Obligations.RefusedCommandsChangeNothing := by
  intro s t c p l args hrun h hres hsum
  have hexec : exec (frameInstr c (whole p args l)) s =
      .next (endFrame p l (newFrame p (commandWire c (whole p args l) s) s) [] s) := by
    rw [exec_frameInstr, commandFrame, frameEvent, if_pos hrun]
    rfl
  obtain rfl := Host.Outcome.next.inj (hexec.symm.trans h)
  unfold endFrame at hres hsum ⊢
  dsimp only at hres hsum ⊢
  split
  · refine ⟨(s.port p).out, s.fills, ?_⟩
    rw [State.setPort_port_same]
    cases p <;> rfl
  case isFalse hne =>
    rw [if_neg hne, State.frameDone_port] at hres hsum
    rw [State.frameDone_port]
    rw [show (newFrame p (commandWire c (whole p args l) s) s).wire ++ [] = commandWire c (whole p args l) s from
      List.append_nil _] at hres hsum ⊢
    rcases takeFrame_kept (c := c) (s := s) (p := p) (l := l) (args := args) _ with hkept | hok | ⟨hc, hbad⟩
    · rw [hkept]
      exact ⟨_, _, State.frameDone_eq ..⟩
    · exact absurd hok hres
    · exact absurd hbad (hsum hc)

/-! ### Power and RST (R160) -/

section
variable {s : State}

theorem frameEvent_held (h : s.running = false) (f : Frame) (wire : List Byte) : frameEvent f wire s = s :=
  if_neg (by simp [h])

end

/-- Settles O47: the two power events by the power state; a held part takes no frame and no event but those listed. -/
theorem powerAndRst : Obligations.PowerAndRst := by
  refine ⟨fun s l => ⟨rfl, fun hmain => ?_, ?_, ?_⟩, fun s i hrun hheld => ?_⟩
  · show Host.Outcome.next (s.pinReset l) = _
    rw [State.pinReset_eq, hmain]
    rfl
  · show Host.Outcome.next s.powerLost = _
    unfold State.powerLost
    split <;> rfl
  · show Host.Outcome.next s.retentionLost = _
    unfold State.retentionLost
    split <;> rfl
  · by_cases hevent : isEvent i = true
    · rw [exec_event i s hevent, if_neg (by simp [hrun, hheld])]
    · cases i
      case framing => exact congrArg Host.Outcome.next (if_neg (by simp [hrun]))
      all_goals first
        | exact absurd rfl hevent
        | exact congrArg Host.Outcome.next (frameEvent_held hrun _ _)

/-! ### The state right after reset -/

/-- With no station and no car listed, nothing holds a reservation. -/
theorem reservations_of_none_listed {s : State} (hs : s.stations = []) (hc : s.cars = []) : s.reservations = [] := by
  have hstation : ∀ n, s.station n = StationSlot.cold := fun n => by rw [State.station, hs]; rfl
  have hcar : ∀ n, s.car n = CarSlot.cold := fun n => by rw [State.car, hc]; rfl
  simp [State.reservations, hstation, hcar, StationSlot.reservation, CarSlot.reservation, StationSlot.cold, CarSlot.cold]

/-- Settles O55: the reset state lists nothing, its mode is FALLBACK, and its log holds the one RESET record. -/
theorem lawsHoldAtReset : Obligations.LawsHoldAtReset := by
  refine ⟨credentialLaw_of_listed (fun _ h => (nomatch h)), pairingLaw_of_listed (fun _ h => (nomatch h)) (fun _ h => (nomatch h)),
    freeLaw_of_listed (fun _ h => (nomatch h)), (fun _ _ h => (nomatch h)), armingLaw_of_listed (fun _ h => (nomatch h)),
    (fun _ h => (nomatch h)), ?_, ?_, (fun _ h => (nomatch h)), ⟨by decide, by decide, (fun _ h => (nomatch h))⟩, ?_, ?_,
    channelLaw_of_listed (fun _ h => (nomatch h)), carriedLaw_of_listed (fun _ h => (nomatch h)),
    rangeLaw_of_listed (fun _ h => (nomatch h)) (fun _ h => (nomatch h)), ?_,
    (fun h => (nomatch h)), ⟨fun _ => rfl, fun _ => rfl⟩, ?_,
    State.reset_canonical, rfl⟩
  · refine ⟨List.nodup_nil, ?_, nofun⟩
    rw [State.placesHeld, reservations_of_none_listed rfl rfl]
    decide
  · rw [State.reservationLaw, reservations_of_none_listed rfl rfl]
    exact List.nodup_nil
  · intro _ c hc
    constructor
    · nofun
    · intro h
      exact absurd h (by revert c; decide)
  · intro c _ _ h
    exact absurd rfl h
  · exact ⟨by decide, by decide, rfl⟩
  · refine ⟨by decide, fun k r h => ?_⟩
    cases k with
    | zero => cases h; rfl
    | succ k => exact nomatch h

end Sys2Proof.Machine
end

section
/-! Gate channels and strike drive (chapter 7): releases, the gate contact with the passage carried, the timers, the supply
samples and the PWM period. -/

namespace Sys2Proof.Machine

set_option Elab.async false -- one thread for the file, as in the tests: a thread for each theorem reaches the memory limit

/-! ### Records appended, and channels rewritten -/

section
variable (s : State)

theorem exec_running {s : State} (i : Instr) (hevent : isEvent i = true) (h : s.running = true) :
    exec i s = .next (runEvent i s) := by
  rw [exec_event i s hevent, if_pos (by simp [h])]

@[simp] theorem State.logged_channel (es : List Event) (c : Nat) : (s.logged es).channel c = s.channel c := by
  rw [State.logged_frame]
  rfl

@[simp] theorem State.logged_station (es : List Event) (n : Nat) : (s.logged es).station n = s.station n := by
  rw [State.logged_frame]
  rfl

@[simp] theorem State.logged_tenant (es : List Event) (i : Nat) : (s.logged es).tenant i = s.tenant i := by
  rw [State.logged_frame]
  rfl

/-- One rewriting applied to the first `n` channels. -/
theorem State.forEach_setChannel (g : Channel → Channel) (n : Nat) :
    let t := s.forEach n fun c u => u.setChannel c (g (u.channel c))
    t = { s with channels := t.channels } ∧ ∀ c, t.channel c = if c < n then g (s.channel c) else s.channel c := by
  induction n with
  | zero => exact ⟨rfl, fun c => rfl⟩
  | succ n ih =>
    obtain ⟨hframe, hchannel⟩ := ih
    simp only [State.forEach_succ]
    generalize s.forEach n (fun c u => u.setChannel c (g (u.channel c))) = u at *
    refine ⟨?_, fun c => ?_⟩
    · rw [hframe]
      rfl
    · rw [State.setChannel_channel, hchannel c, hchannel n]
      rcases Nat.lt_trichotomy c n with h | rfl | h
      · rw [if_neg (by omega), if_pos h, if_pos (by omega)]
      · rw [if_pos rfl, if_neg (Nat.lt_irrefl _), if_pos (by omega)]
      · rw [if_neg (by omega), if_neg (by omega), if_neg (by omega)]

end

/-! ### Releases (R120 to R122, R124) -/

theorem runGatePulse_eq (args : List Byte) (s : State) :
    let c := numberOf (byteAt args 0)
    runGatePulse args s =
      if 16 ≤ c then (.badArgument, s)
      else if s.channelMode c = .locked then (.state, s)
      else if (s.channel c).state = .unlocked then (.ok, s)
      else (.ok, (s.setChannel c (s.released c s.baseRelease)).logged (releaseEvents (s.channel c) c)) := by
  intro c
  unfold runGatePulse
  simp only [answer_cons, answer_nil, decide_eq_true_eq, beq_iff_eq]
  refine if_congr Iff.rfl rfl (if_congr Iff.rfl rfl ?_)
  split
  · rfl
  · exact congrArg (Prod.mk _) (s.release_eq c s.baseRelease ‹_›)

/-- A release does not look at the level of the request input. -/
theorem State.released_egress (s : State) (c tenths : Nat) (b : Bool) :
    (s.setChannel c { s.channel c with egress := b }).released c tenths = { s.released c tenths with egress := b } := by
  have hdriven (x : Channel) : (s.setChannel c { s.channel c with egress := b }).driven x = s.driven x := rfl
  have htime (k unit : Nat) : (s.setChannel c { s.channel c with egress := b }).inTime k unit = s.inTime k unit := rfl
  have hheld : (s.setChannel c { s.channel c with egress := b }).heldOpenTime = s.heldOpenTime := rfl
  unfold State.released
  rw [State.setChannel_channel_same]
  simp only [hdriven, htime, hheld]
  generalize s.channel c = x
  obtain ⟨state, _, _, _, _, _, _, _⟩ := x
  cases state
  case secure | passing | propped | forced =>
    unfold State.driven
    dsimp only
    split <;> rfl
  case released | unlocked => rfl

/-- A release taken by an egress request: the level held is the input's besides (R120). -/
theorem State.egressActive_eq (s : State) (c : Nat) (h : (s.channel c).egress = false) :
    s.egressActive c =
      if s.channelMode c = .locked ∨ (s.channel c).state = .unlocked then s.setChannel c { s.channel c with egress := true }
      else (s.setChannel c { s.released c s.baseRelease with egress := true }).logged (releaseEvents (s.channel c) c) := by
  unfold State.egressActive
  simp only [h, Bool.false_eq_true, if_false]
  split
  · rfl
  case isFalse hfree =>
    have hstate : (s.channel c).state ≠ .unlocked := fun hu => hfree (.inr hu)
    rw [State.baseReleaseOf, State.release_eq _ _ _ (by rw [State.setChannel_channel_same]; exact hstate)]
    rw [show (s.setChannel c { s.channel c with egress := true }).baseRelease = s.baseRelease from rfl, State.released_egress,
      State.setChannel_setChannel, State.setChannel_channel_same]
    rfl

/-- Settles O32: both requests are the release of the base time, under their checks. -/
theorem egressRequestAndGatePulse : Obligations.EgressRequestAndGatePulse := by
  refine ⟨fun s c hrun => ⟨exec_running (.egressRequest c false) rfl hrun, fun h => ?_, fun h => ?_⟩,
    fun s l args htakes hargs => ?_⟩
  · rw [exec_running (.egressRequest c true) rfl hrun]
    exact congrArg Host.Outcome.next (if_pos h)
  · rw [exec_running (.egressRequest c true) rfl hrun]
    exact congrArg Host.Outcome.next (s.egressActive_eq c h)
  · have h := exec_officeWrite (l := l) .gatePulse htakes rfl rfl hargs (e := runGatePulse args s) rfl
    rw [runGatePulse_eq] at h
    refine h.trans (congrArg Host.Outcome.next ?_)
    split
    · rfl
    split
    · rfl
    split <;> rfl

/-! ### The gate contact (R125, R126, R76, R83) -/

section
variable {s : State} {c n : Nat} {p : Passage}

/-- Nothing is handed on where the passage carried has no use for it. -/
theorem State.withCarried_same {f : Nat → Passage → State}
    (h : ∀ n p, (s.channel c).carried = some n → (s.station n).state = .passage p → f n p = s) : s.withCarried c f = s := by
  unfold State.withCarried
  split
  · rfl
  case h_2 n hn =>
    split
    · exact h n _ hn ‹_›
    · rfl

/-- A channel after its gate contact opened (R125). -/
def State.openedChannel (s : State) (c : Nat) : Channel :=
  { s.channel c with
    gateOpen := true
    state := match (s.channel c).state with
      | .secure => .forced
      | .released => .passing
      | a => a
    heldOpenTimer :=
      if (s.channel c).state = .released then s.inTime s.heldOpenTime 1000000 else (s.channel c).heldOpenTimer }

theorem State.channelOpened_eq (s : State) (c : Nat) :
    s.channelOpened c =
      (s.setChannel c (s.openedChannel c)).logged (if (s.channel c).state = .secure then [.gateForced c] else []) := by
  unfold State.channelOpened State.openedChannel
  generalize s.channel c = x
  obtain ⟨state, _, _, _, _, _, _, _⟩ := x
  cases state <;> rfl

/-- A channel after its gate contact closed (R126). -/
def Channel.closed (x : Channel) : Channel :=
  let y : Channel := { x with gateOpen := false }
  if x.state = .passing ∨ x.state = .propped then
    { y with state := .secure, releaseTimer := none, heldOpenTimer := none, drive := .off, pickTimer := none }
  else if x.state = .forced then { y with state := .secure }
  else y

theorem Channel.closed_carried (x : Channel) : x.closed.carried = x.carried := by
  unfold Channel.closed
  dsimp only
  split
  · rfl
  · split <;> rfl

/-- The record of a close (R126). -/
def Channel.closedEvents (x : Channel) (c : Nat) : List Event :=
  if x.state = .propped then [.gateRestored .propped c] else if x.state = .forced then [.gateRestored .forced c] else []

theorem State.channelClosed_eq (s : State) (c : Nat) :
    s.channelClosed c = (s.setChannel c (s.channel c).closed).logged ((s.channel c).closedEvents c) := by
  unfold State.channelClosed Channel.closed Channel.closedEvents
  generalize s.channel c = x
  obtain ⟨state, _, _, _, _, _, _, _⟩ := x
  cases state <;> rfl

theorem State.channel_eq_of_channels {t : State} (h : t.channels = s.channels) (c : Nat) : t.channel c = s.channel c := by
  unfold State.channel
  rw [h]

/-- The passage that a gate channel carries completes (R83, R76). -/
theorem State.completePassage_gate (hp : p.channel = some c) (hcarried : (s.channel c).carried = some n)
    (hunits : ∀ i, (s.tenant i).units.Nodup) :
    ∃ t, s.completes t p.kind.completion p.holder p.reservation (p.destination.getD 0) (.station n) (p.doneEvent n) ∧
      s.completePassage n p =
        (t.setStation n { s.station n with state := .ready }).setChannel c { s.channel c with carried := none } := by
  have hc := s.complete_completes p.kind.completion p.holder p.reservation (p.destination.getD 0) (.station n)
    (p.doneEvent n) hunits
  refine ⟨_, hc, ?_⟩
  have hchannel := State.channel_eq_of_channels
    (s.complete_only p.kind.completion p.holder p.reservation (p.destination.getD 0) (.station n) (p.doneEvent n) .channels rfl) c
  rw [State.completePassage, State.endPassage, hp, State.station_eq_of_completes hc]
  unfold State.detach
  dsimp only
  rw [State.setStation_channel, hchannel, if_pos hcarried]

end

/-- Settles O33: the channel's own part, then the opened mark or the completion of the passage it carries. -/
theorem gateContactEvents : Obligations.GateContactEvents := by
  refine ⟨fun s c hrun => ?_, fun s c hrun => ?_⟩
  · intro x opened
    have hexec := exec_running (s := s) (.gateContactOpen c) rfl hrun
    have hopened : s.channelOpened c = opened := s.channelOpened_eq c
    have hcarried : (opened.channel c).carried = x.carried := by
      rw [← hopened, State.channelOpened_eq, State.logged_channel, State.setChannel_channel_same]
      rfl
    have hstation (n : Nat) : opened.station n = s.station n := by
      rw [← hopened, State.channelOpened_eq, State.logged_station, State.setChannel_station]
    have hgate (hshut : x.gateOpen = false) : exec (.gateContactOpen c) s = .next (opened.handOpened c) := by
      rw [hexec, ← hopened]
      exact congrArg Host.Outcome.next (if_neg (by rw [hshut]; exact Bool.false_ne_true))
    refine ⟨fun hopen => hexec.trans (congrArg Host.Outcome.next (if_pos hopen)), fun hshut hnone => ?_,
      fun n p hshut hn hp => ?_⟩
    · rw [hgate hshut, State.handOpened, State.withCarried_none fun n p hn => ?_]
      rw [hstation]
      exact hnone n p (hcarried ▸ hn)
    · rw [hgate hshut, State.handOpened, State.withCarried_some (hcarried.trans hn) ((congrArg _ (hstation n)).trans hp),
        State.setPassage, hstation]
  · intro x y z shut
    have hexec := exec_running (s := s) (.gateContactClose c) rfl hrun
    have hshut : s.channelClosed c = shut := s.channelClosed_eq c
    have hz : shut.channel c = z := by
      rw [← hshut, State.channelClosed_eq, State.logged_channel, State.setChannel_channel_same]
      rfl
    have hcarried : (shut.channel c).carried = x.carried := by
      rw [hz]
      exact x.closed_carried
    have hstation (n : Nat) : shut.station n = s.station n := by
      rw [← hshut, State.channelClosed_eq, State.logged_station, State.setChannel_station]
    have htenant (i : Nat) : shut.tenant i = s.tenant i := by
      rw [← hshut, State.channelClosed_eq, State.logged_tenant, State.setChannel_tenant]
    have hgate (hopen : x.gateOpen = true) : exec (.gateContactClose c) s = .next (shut.handClosed c) := by
      rw [hexec, ← hshut]
      exact congrArg Host.Outcome.next (if_pos hopen)
    refine ⟨fun h => hexec.trans (congrArg Host.Outcome.next (if_neg (by rw [show (s.channel c).gateOpen = false from h]; exact Bool.false_ne_true))),
      fun hopen hnone => ?_, fun n p hopen hn hp hmark hchannel hunits => ?_⟩
    · rw [hgate hopen, State.handClosed, State.withCarried_same fun n p hn hp => ?_]
      rw [hnone n p (hcarried ▸ hn) (hstation n ▸ hp)]
      rfl
    · obtain ⟨t, hcompletes, ht⟩ := State.completePassage_gate (s := shut) hchannel (hcarried.trans hn)
        (fun i => by rw [htenant]; exact hunits i)
      refine ⟨t, ?_, ?_⟩
      · obtain ⟨kind, _, _, _, _, _, _⟩ := p
        cases kind <;> exact hcompletes
      · rw [hgate hopen, State.handClosed, State.withCarried_some (hcarried.trans hn) ((congrArg _ (hstation n)).trans hp),
          if_pos hmark, ht, hz, hstation]

/-! ### The timers (R123, R127, R135, R77) -/

/-- A channel after its release timer expired, in the states that run one (R123). -/
def Channel.expired (x : Channel) : Channel :=
  { x with releaseTimer := none, drive := .off, pickTimer := none, state := if x.state = .released then .secure else x.state }

/-- The states that run no release timer are those whose law says so (R123). -/
theorem State.releaseExpired_eq {s : State} {c : Nat} (hlaw : (s.channel c).lawful) (h : (s.channel c).releaseTimer ≠ none) :
    s.releaseExpired c = (s.setChannel c (s.channel c).expired).handExpired c := by
  obtain ⟨-, hlaw⟩ := hlaw
  unfold State.releaseExpired State.channelExpired Channel.expired
  generalize s.channel c = x at *
  obtain ⟨state, _, _, _, _, _, _, _⟩ := x
  cases state
  case secure => exact absurd hlaw.2.2.1 h
  case forced => exact absurd hlaw.2.2.1 h
  case unlocked => exact absurd hlaw.2.1 h
  case released | passing | propped => rfl

/-- Settles O34: the channel by its state, and the passage it carries where the release governed it. -/
theorem channelTimersExpire : Obligations.ChannelTimersExpire := by
  refine ⟨fun s c hrun hlaw => ?_, fun s c hrun => ?_⟩
  · intro x z
    have hexec := exec_running (s := s) (.releaseTimerExpiry c) rfl hrun
    have hrelease (h : x.releaseTimer ≠ none) :
        exec (.releaseTimerExpiry c) s = .next ((s.setChannel c z).handExpired c) := by
      rw [hexec]
      exact congrArg Host.Outcome.next
        ((if_pos (Option.isSome_iff_ne_none.2 h)).trans (State.releaseExpired_eq (hlaw c) h))
    have hcarried : ((s.setChannel c z).channel c).carried = x.carried := by rw [State.setChannel_channel_same]
    refine ⟨fun h => hexec.trans (congrArg Host.Outcome.next (if_neg ?_)), fun h hnone => ?_,
      fun n p h hn hp hgovernor hmark hchannel => ?_⟩
    · rw [show (s.channel c).releaseTimer = none from h]
      nofun
    · rw [hrelease h, State.handExpired, State.withCarried_same fun n p hn hp => ?_]
      refine if_neg fun ⟨hgovernor, hmark⟩ => ?_
      rcases hnone n p (hcarried ▸ hn) hp with hother | hopened
      exacts [hother hgovernor, hmark hopened]
    · rw [hrelease h, State.handExpired, State.withCarried_some (hcarried.trans hn) hp, if_pos ⟨hgovernor, by simp [hmark]⟩,
        State.abandonPassage_gate hchannel, State.setChannel_channel_same]
      dsimp only
      rw [if_pos hn]
      exact congrArg Host.Outcome.next (State.setChannel_setChannel
        ((s.append (.passageAbandoned .noOpen n p.tenant)).setStation n { s.station n with state := .ready }) c z
        { z with carried := none })
  · intro x
    have hexec := exec_running (s := s) (.heldOpenTimerExpiry c) rfl hrun
    refine ⟨fun h hpassing => hexec.trans (congrArg Host.Outcome.next ?_), fun h => hexec.trans (congrArg Host.Outcome.next (if_neg ?_)),
      exec_running (.pickTimerExpiry c) rfl hrun⟩
    · exact (if_pos (Option.isSome_iff_ne_none.2 h)).trans (if_pos hpassing)
    · rw [show (s.channel c).heldOpenTimer = none from h]
      nofun

/-! ### The strike outputs and the PWM period (R134 to R136) -/

/-- Of the ticks `0` to `n - 1` those below `d`. -/
theorem countP_lt_range (d n : Nat) : (List.range n).countP (fun k => decide (k < d)) = min d n := by
  induction n with
  | zero => simp
  | succ n ih =>
    rw [List.range_succ, List.countP_append, ih]
    by_cases h : n < d <;> simp [h] <;> omega

/-- Settles O35: the output follows the drive; a period start rewrites every channel alike. -/
theorem strikeOutputsAndPeriodStart : Obligations.StrikeOutputsAndPeriodStart := by
  refine ⟨fun s c hduty => ?_, fun s hrun => ?_⟩
  · intro on
    refine ⟨fun hrun => ⟨fun hdrive => ?_, fun hdrive => ?_, fun hdrive => ?_⟩, fun hheld => ?_⟩
    · have hout : s.strikeOutput c = fun k => decide (k < s.strike.duty) := by
        funext k
        simp only [State.strikeOutput, hrun, hdrive, Bool.true_and]
      refine ⟨?_, fun k _ => congrFun hout k⟩
      show (List.range 256).countP (s.strikeOutput c) = _
      rw [hout, countP_lt_range]
      omega
    · have hout : s.strikeOutput c = fun _ => true := by
        funext k
        simp only [State.strikeOutput, hrun, hdrive, Bool.true_and]
      show (List.range 256).countP (s.strikeOutput c) = _
      rw [hout, List.countP_true, List.length_range]
    · have hout : s.strikeOutput c = fun _ => false := by
        funext k
        simp only [State.strikeOutput, hrun, hdrive, Bool.true_and]
      show (List.range 256).countP (s.strikeOutput c) = _
      rw [hout, List.countP_false]
      rfl
    · have hout : s.strikeOutput c = fun _ => false := by
        funext k
        simp only [State.strikeOutput, hheld, Bool.false_and]
      show (List.range 256).countP (s.strikeOutput c) = _
      rw [hout, List.countP_false]
      rfl
  · obtain ⟨hframe, hchannel⟩ := State.forEach_setChannel
      (s.setStrike { s.strike with duty := s.strike.nextDuty.getD s.strike.duty, nextDuty := none }) Channel.periodStart
      Config.channelCount
    have hexec : exec .pwmPeriodStart s = .next s.periodStart := exec_running .pwmPeriodStart rfl hrun
    unfold State.periodStart at hexec
    dsimp only at hexec
    generalize State.forEach Config.channelCount _ _ = u at hframe hchannel hexec
    refine ⟨_, hexec, fun c => ?_, ?_⟩
    · refine (hchannel c).trans ?_
      unfold Channel.periodStart
      by_cases hc : c < 16
      · simp only [show c < Config.channelCount from hc, if_true, true_and]
        rfl
      · simp only [show ¬c < Config.channelCount from hc, if_false, false_and]
        rfl
    · rw [hframe]
      rfl

/-! ### Supply samples (R136 to R138) -/

/-- The duty is the nearest whole number, halves up. -/
theorem computedDuty_nearest (h v : Nat) (hv : 0 < v) :
    2 * computedDuty h v * v ≤ 2 * (h * 256) + v ∧ 2 * (h * 256) + v < 2 * (computedDuty h v + 1) * v := by
  have hle : computedDuty h v * v ≤ h * 256 + v / 2 := Nat.div_mul_le_self _ _
  have hlt : h * 256 + v / 2 < (computedDuty h v + 1) * v := by
    have h := Nat.lt_mul_div_succ (h * 256 + v / 2) hv
    rwa [Nat.mul_comm v] at h
  rw [Nat.mul_assoc, Nat.mul_assoc 2]
  omega

theorem State.failSample_eq (s : State) (v : Nat) :
    s.failSample v =
      ({ s with strike := { s.strike with reading := v, sampleTimer := s.now + 10000, failMark := true } }).logged
        (if s.strike.failMark then [] else [.supplyFail v]) := by
  unfold State.failSample
  cases hmark : s.strike.failMark <;> rfl

/-- A good sample with the duty it computes (R136, R137). -/
theorem State.goodSample_eq (s : State) (v duty : Nat) (low : Bool)
    (hlow : low = (decide (s.holdVoltage ≠ 0) && decide (255 < computedDuty s.holdVoltage v)))
    (hduty : duty = if s.holdVoltage = 0 ∨ low = true then 255 else computedDuty s.holdVoltage v) :
    s.goodSample v =
      ({ s with strike := { s.strike with reading := v, sampleTimer := s.now + 10000, nextDuty := some duty, lowMark := low
                                          failMark := false } }).logged
        ((if s.strike.failMark then [Event.supplyOk v] else []) ++
          if low = true ∧ s.strike.lowMark = false then [Event.supplyLow v] else []) := by
  unfold State.goodSample
  dsimp only
  rw [← hlow, ← hduty]
  cases hfail : s.strike.failMark <;> cases low <;> cases hmark : s.strike.lowMark <;> rfl

/-- Settles O36: a failing sample, and a good one by the duty it computes. -/
theorem supplySampleAndDuty : Obligations.SupplySampleAndDuty := by
  refine ⟨fun s v hrun => ?_, computedDuty_nearest⟩
  intro k h d
  rw [exec_running (.supplySample v) rfl hrun]
  refine congrArg Host.Outcome.next ?_
  show (if v.val < 120 then s.failSample v else s.goodSample v) = _
  refine if_congr Iff.rfl (s.failSample_eq v) ?_
  dsimp only
  by_cases hh : h = 0
  · rw [if_pos hh, s.goodSample_eq v 255 false (by simp [show s.holdVoltage = 0 from hh]) (by rw [if_pos (.inl hh)])]
    simp only [Bool.false_eq_true, false_and, if_false, List.append_nil]
    rfl
  · rw [if_neg hh]
    by_cases hd : 255 < d
    · rw [if_pos hd, s.goodSample_eq v 255 true (by simp [show s.holdVoltage ≠ 0 from hh, show 255 < computedDuty s.holdVoltage v from hd])
        (by rw [if_pos (.inr rfl)])]
      cases hmark : s.strike.lowMark <;> simp only [true_and, if_true, if_false, Bool.true_eq_false, Bool.false_eq_true] <;> rfl
    · rw [if_neg hd, s.goodSample_eq v d false (by simp [show ¬255 < computedDuty s.holdVoltage v from hd])
        (by rw [if_neg (fun h => h.elim hh Bool.false_ne_true)]; rfl)]
      simp only [Bool.false_eq_true, false_and, if_false, List.append_nil]
      rfl

end Sys2Proof.Machine
end

section
/-! Bulk loading (chapter 8): the three commands by their checks, and the examination of the oldest record. -/

namespace Sys2Proof.Machine

set_option Elab.async false -- one thread for the file, as in the tests: a thread for each theorem reaches the memory limit

/-! ### LOAD BEGIN, LOAD DATA and LOAD ABORT (R140, R141, R146) -/

theorem runLoadBegin_eq (args : List Byte) (s : State) :
    let first := wordAt args 1
    let requested := wordAt args 3
    let size := if natAt args 0 = 0 then 2048 else 3072
    runLoadBegin args s =
      if 2 ≤ natAt args 0 ∨ requested = 0 ∨ size ≤ first then (.badArgument, s)
      else if s.loader.active then (.busy, s)
      else if s.control.tableFault then (.tableFault, s)
      else
        let count := min requested (size - first)
        (.ok, { s with
          loader :=
            { active := true, kind := if natAt args 0 = 0 then .tenant else .unitFloor, count, nextTarget := first
              committed := 0, skipped := 0, remaining := count, buffer := [] } }) := by
  intro first requested size
  have hkind : (natAt args 0 = 0 ∧ loadKindOf (byteAt args 0) = some .tenant) ∨
      (natAt args 0 = 1 ∧ loadKindOf (byteAt args 0) = some .unitFloor) ∨
      2 ≤ natAt args 0 ∧ loadKindOf (byteAt args 0) = none := by
    unfold natAt loadKindOf
    generalize (byteAt args 0).toNat = k
    match k with
    | 0 => exact .inl ⟨rfl, rfl⟩
    | 1 => exact .inr (.inl ⟨rfl, rfl⟩)
    | k + 2 => exact .inr (.inr ⟨by omega, rfl⟩)
  unfold runLoadBegin
  rcases hkind with ⟨hn, hk⟩ | ⟨hn, hk⟩ | ⟨hn, hk⟩ <;> rw [hk]
  · have hsize : size = 2048 := if_pos hn
    simp only [hsize, answer_cons, answer_nil, Bool.or_eq_true, beq_iff_eq, hn, decide_eq_true_eq]
    exact if_congr (by simp [requested, first, LoadKind.tableSize, Config.tenantSlots]) rfl rfl
  · have hsize : size = 3072 := if_neg (by omega)
    simp only [hsize, answer_cons, answer_nil, Bool.or_eq_true, beq_iff_eq, hn, decide_eq_true_eq]
    exact if_congr (by simp [requested, first, LoadKind.tableSize, Config.unitCount]) rfl rfl
  · rw [if_pos (.inl hn)]

theorem runLoadAbort_eq (s : State) :
    runLoadAbort s =
      if s.loader.active then
        (.ok, ({ s with loader := { s.loader with active := false, buffer := [] } }).append
          (.loadAborted s.loader.kind s.loader.committed s.loader.skipped))
      else (.state, s) := by
  unfold runLoadAbort
  rw [answer_cons]
  cases s.loader.active <;> rfl

/-- A record that joins the buffer (R141). -/
theorem runLoadData_some {args : List Byte} {s : State} {r : LoadRecord} (hactive : s.loader.active = true)
    (hr : loadRecordOf s.loader.kind args = some r) :
    runLoadData args s =
      if s.loader.count ≤ s.loader.buffer.length + s.loader.committed + s.loader.skipped then (.state, s)
      else if 4 ≤ s.loader.buffer.length then (.full, s)
      else (.ok, { s with loader := { s.loader with buffer := s.loader.buffer ++ [r] } }) := by
  unfold runLoadData
  simp only [hactive, hr, Bool.not_true, Bool.false_eq_true, if_false, answer_cons, answer_nil, decide_eq_true_eq]
  rfl

theorem runLoadData_none {args : List Byte} {s : State} (hactive : s.loader.active = true)
    (hr : loadRecordOf s.loader.kind args = none) : runLoadData args s = (.badArgument, s) := by
  unfold runLoadData
  simp only [hactive, hr, Bool.not_true, Bool.false_eq_true, if_false]

theorem runLoadData_idle {args : List Byte} {s : State} (hactive : s.loader.active = false) :
    runLoadData args s = (.state, s) := by
  unfold runLoadData
  simp only [hactive, Bool.not_false, if_true]

/-- The argument bytes of LOAD DATA are those of the record the frame holds (R141). -/
theorem loadDataBytes_tenant {k : Loader} {args : List Byte} (hactive : k.active = true) (hkind : k.kind = .tenant)
    (h : 8 + 2 * natAt args 7 ≤ args.length) : loadDataBytes k args ≤ args.length := by
  unfold loadDataBytes
  rw [if_pos hactive, hkind]
  dsimp only
  split <;> omega

/-- Settles O37: each command by its checks in order, the load's kind deciding what a frame of LOAD DATA holds. -/
theorem loadCommands : Obligations.LoadCommands := by
  refine ⟨fun s l args htakes => ?_, fun s l args htakes => ?_⟩
  · intro n first requested size
    refine ⟨fun ha => ?_, ?_⟩
    · have h := exec_officeWrite (l := l) .loadBegin htakes rfl rfl ha (e := runLoadBegin args s) rfl
      rw [runLoadBegin_eq] at h
      refine h.trans (congrArg Host.Outcome.next ?_)
      by_cases hbad : 2 ≤ natAt args 0 ∨ requested = 0 ∨ size ≤ first
      · rw [if_pos hbad, if_pos hbad]
        rfl
      · rw [if_neg hbad, if_neg hbad]
        cases s.loader.active
        · cases s.control.tableFault <;> rfl
        · rfl
    · have h := exec_officeWrite (args := args) (l := l) .loadAbort htakes rfl rfl (Nat.zero_le _) (e := runLoadAbort s) rfl
      rw [runLoadAbort_eq] at h
      refine h.trans (congrArg Host.Outcome.next ?_)
      split <;> rfl
  · intro n full buffered refused
    have hexec (ha : loadDataBytes s.loader args ≤ args.length) {e : ResultCode × State} (he : runLoadData args s = e) :
        exec (.loadData (whole .office args l)) s = .next (s.taken e.2 .office e.1 n) :=
      exec_officeWrite .loadData htakes rfl rfl ha he
    have hrefused (ha : loadDataBytes s.loader args ≤ args.length) {r : ResultCode} (hr : runLoadData args s = (r, s)) :
        refused r := hexec ha hr
    have hbuffered (ha : loadDataBytes s.loader args ≤ args.length) (hactive : s.loader.active = true) {r : LoadRecord}
        (hr : loadRecordOf s.loader.kind args = some r) : buffered r := by
      refine (hexec ha (runLoadData_some hactive hr)).trans (congrArg Host.Outcome.next ?_)
      by_cases hfull : full
      · rw [if_pos hfull, if_pos hfull]
        rfl
      · rw [if_neg hfull, if_neg hfull]
        split <;> rfl
    refine ⟨fun hidle => ?_, fun hactive hkind ha => ⟨fun hf => ?_, fun hf => ?_⟩, fun hactive hkind ha =>
      ⟨fun hbad => ?_, fun d hcount hd => ?_⟩⟩
    · exact hrefused (by simp [loadDataBytes, hidle]) (runLoadData_idle hidle)
    · refine hrefused (by simpa [loadDataBytes, hactive, hkind] using ha) (runLoadData_none hactive ?_)
      rw [hkind]
      exact if_neg (Nat.not_lt.2 hf)
    · refine hbuffered (by simpa [loadDataBytes, hactive, hkind] using ha) hactive ?_
      rw [hkind]
      exact if_pos hf
    · refine hrefused (loadDataBytes_tenant hactive hkind ha) (runLoadData_none hactive ?_)
      rw [hkind]
      rcases hbad with hmany | hnone
      · exact if_neg (Nat.not_le.2 hmany)
      · unfold loadRecordOf
        dsimp only
        rw [hnone]
        split <;> rfl
    · refine hbuffered (loadDataBytes_tenant hactive hkind ha) hactive ?_
      rw [hkind]
      refine (if_pos hcount).trans ?_
      rw [hd]
      rfl

/-! ### The examination of the oldest record (R142 to R145, R114) -/

/-- The loader after an examination with the given counts, and LOAD_DONE at the end of the load; `t` has the tables after it. -/
def State.examinedTo (s t : State) (rest : List LoadRecord) (committed skipped : Nat) : State :=
  ({ t with
    loader :=
      { s.loader with
        active := if committed + skipped = s.loader.count then false else s.loader.active
        buffer := rest, nextTarget := s.loader.nextTarget + 1, remaining := s.loader.remaining - 1, committed, skipped } }).logged
    (if committed + skipped = s.loader.count then [.loadDone s.loader.kind committed skipped] else [])

section
variable {s t : State} {svckey : Bool} {r : LoadRecord} {rest : List LoadRecord}

theorem State.examineOldest_skipped (h : s.examine svckey s.loader.nextTarget r = (false, t)) :
    s.examineOldest svckey r rest = s.examinedTo t rest s.loader.committed (s.loader.skipped + 1) := by
  unfold State.examineOldest State.examinedTo Loader.examined
  rw [h]
  simp only [Bool.false_eq_true, if_false]
  split <;> rfl

theorem State.examineOldest_committed (h : s.examine svckey s.loader.nextTarget r = (true, t)) :
    s.examineOldest svckey r rest = s.examinedTo t rest (s.loader.committed + 1) s.loader.skipped := by
  unfold State.examineOldest State.examinedTo Loader.examined
  rw [h]
  simp only [if_true]
  split <;> rfl

end

/-- A unit of a committed record: it names the slot and is ARMED, unless it is in ALARM or SERVICE (R114). -/
def UnitRecord.loaded (i : Nat) (x : UnitRecord) : UnitRecord :=
  { x with tenant := some i, arm := if x.arm.stays then x.arm else .armed }

theorem UnitRecord.loaded_loaded (i : Nat) (x : UnitRecord) : (x.loaded i).loaded i = x.loaded i := by
  unfold UnitRecord.loaded
  cases x.arm <;> rfl

/-- The target state of a unit of an ACTIVE tenant who is absent is ARMED (R105). -/
theorem State.loadUnit_eq {s : State} {i : Nat} (hstate : (s.tenant i).state = .active) (habsent : s.isPresent i = false)
    (u : Nat) : s.loadUnit i u = s.setUnit u ((s.unit u).loaded i) := by
  have htarget : s.targetOf { s.unit u with tenant := some i } = .armed := by
    simp [State.targetOf, hstate, habsent]
  rw [show s.loadUnit i u = _ from State.setUnit_assignArming s u _, htarget]
  congr 1
  unfold UnitRecord.loaded UnitRecord.toArm
  cases hs : (s.unit u).arm.stays <;> simp

/-- A committed TENANT record writes the slot and each unit of its list (R143). -/
theorem State.commitTenant_eq {s : State} {i : Nat} {d : TenantDetails} {us : List Nat} (hfree : (s.tenant i).state = .free)
    (habsent : s.isPresent i = false) :
    let t := s.commitTenant i d us
    t = { s.setTenant i { state := .active, enrolment := (s.tenant i).enrolment + 1, role := d.role, credential := d.credential
                          profile := d.profile, extended := d.extended, units := us } with units := t.units } ∧
      ∀ u, t.unit u = if u ∈ us then (s.unit u).loaded i else s.unit u := by
  have hwrite : { (s.tenant i).write d with units := us } =
      ({ state := .active, enrolment := (s.tenant i).enrolment + 1, role := d.role, credential := d.credential
         profile := d.profile, extended := d.extended, units := us } : TenantRecord) := by
    simp [TenantRecord.write, hfree]
  unfold State.commitTenant
  rw [hwrite]
  exact foldl_units (P := fun u => (u.tenant i).state = .active ∧ u.isPresent i = false) (g := UnitRecord.loaded i)
    (fun _ _ h => h) (UnitRecord.loaded_loaded i) us (fun u v _ h => .inl (State.loadUnit_eq h.1 h.2 v)) _
    ⟨by rw [State.setTenant_tenant_same], habsent⟩

theorem State.skipsTenant_eq_true (s : State) (svckey : Bool) (i : Nat) (d : TenantDetails) (us : List Nat) :
    s.skipsTenant svckey i d us = true ↔
      (s.tenant i).state ≠ .free ∨ (i < s.protectedCount ∧ svckey = false) ∨
        (∃ j < 2048, (s.tenant j).state ≠ .free ∧ (s.tenant j).credential = d.credential) ∨ (∃ u ∈ us, 3072 ≤ u) ∨
        ¬us.Nodup ∨ ∃ u ∈ us, (s.unit u).tenant ≠ none := by
  rw [← Bool.not_eq_false, State.skipsTenant_eq_false]
  simp only [not_and_or, not_forall, exists_prop, not_not, Bool.not_eq_true, Nat.not_lt, ne_eq]

/-- Settles O38: the examination skips or commits, and the counts follow. -/
theorem loaderExamination : Obligations.LoaderExamination := by
  intro s key r rest hrun hnext i finish
  have hexec : exec (.loaderExamine key) s = .next (s.examineOldest key r rest) := by
    rw [exec_running (.loaderExamine key) rfl hrun]
    show Host.Outcome.next (s.takeRecord key) = _
    rw [State.takeRecord, State.nextWork_record hnext]
  refine ⟨fun f hr => ?_, fun d us hr => ?_⟩ <;> subst hr
  · rw [hexec]
    refine congrArg Host.Outcome.next ?_
    split
    case isTrue htenant =>
      refine State.examineOldest_skipped (if_pos ?_)
      exact Option.isSome_iff_ne_none.2 htenant
    case isFalse htenant =>
      refine State.examineOldest_committed (if_neg ?_)
      exact fun h => htenant (Option.isSome_iff_ne_none.1 h)
  · intro skip
    refine ⟨fun hskip => ?_, fun hskip habsent => ?_⟩
    · rw [hexec]
      exact congrArg Host.Outcome.next (State.examineOldest_skipped (if_pos ((s.skipsTenant_eq_true key i d us).2 hskip)))
    · have hgoes := mt (s.skipsTenant_eq_true key i d us).1 hskip
      obtain ⟨hframe, hunit⟩ := State.commitTenant_eq (d := d) (us := us) (of_not_not fun h => hskip (.inl h)) habsent
      refine ⟨s.commitTenant i d us, ?_, hframe, hunit⟩
      rw [hexec]
      exact congrArg Host.Outcome.next (State.examineOldest_committed (if_neg hgoes))

end Sys2Proof.Machine
end

section
/-! Modes, the parameter block and its edit window (9.1 to 9.3): the commands by their checks, the fields stored, and what a
change of a mode byte makes of the channels. -/

namespace Sys2Proof.Machine

set_option Elab.async false -- one thread for the file, as in the tests: a thread for each theorem reaches the memory limit

/-! ### Modes and the edit window (R151, R153, R156, R157) -/

/-- Records appended to a state whose log is `s`'s after `fs`. -/
theorem State.logged_after {u s : State} {fs : List Event} (hlog : u.log = (s.logged fs).log)
    (hminute : u.clock.minute = s.clock.minute) (es : List Event) : u.logged es = { u with log := (s.logged (fs ++ es)).log } := by
  refine (State.logged_frame es u).trans (congrArg (fun g => { u with log := g }) ?_)
  rw [State.logged_append]
  exact State.logged_log u (s.logged fs) es hlog (by rw [State.logged_frame fs s]; exact hminute)

/-- The warnings of the shared channels, one after another (R156). -/
theorem State.forEach_warnChannel (u : State) (n : Nat) :
    u.forEach n State.warnChannel =
      u.logged (((List.range n).filter fun c => 2 ≤ u.namesCount c).map fun c => .paramWarn c (u.namesCount c)) := by
  induction n with
  | zero => rfl
  | succ n ih =>
    have hcount (es : List Event) (c : Nat) : (u.logged es).namesCount c = u.namesCount c := by
      rw [State.logged_frame]
      rfl
    rw [State.forEach_succ, ih, List.range_succ, List.filter_append, List.map_append, State.logged_append]
    unfold State.warnChannel
    rw [hcount]
    by_cases h : 2 ≤ u.namesCount n <;> simp [h]

/-- The records of a sum found bad, with the mode's change (R150, R156). -/
def State.faultEvents (s : State) (cause : ModeCause) : List Event :=
  if s.blockGood then [] else
    .paramFault cause s.blockSum :: if s.control.mode = .normal then [.mode cause .fallback] else []

/-- The sum check, with the fault where the sum is bad (R156, R157). -/
theorem State.checked_eq (s : State) (cause : ModeCause) :
    (if s.blockGood then s else s.paramFault cause) =
      { s with
        control := if s.blockGood then s.control else { s.control with mode := .fallback }
        log := (s.logged (s.faultEvents cause)).log } := by
  unfold State.faultEvents
  cases hgood : s.blockGood
  · unfold State.paramFault State.enterFallback
    rw [State.append_control]
    cases hmode : s.control.mode
    · rfl
    · have hsame : ({ s.control with mode := .fallback } : Control) = s.control := by rw [← hmode]
      simp only [Bool.false_eq_true, if_false, reduceCtorEq, hsame]
      rfl
  · rfl

theorem State.warned_eq {u s : State} {fs : List Event} (hlog : u.log = (s.logged fs).log)
    (hminute : u.clock.minute = s.clock.minute) (n : Nat) (timer : Option Nat) :
    { u.forEach n State.warnChannel with sweep := timer } =
      { u with
        sweep := timer
        log := (s.logged (fs ++
          ((List.range n).filter fun c => 2 ≤ u.namesCount c).map fun c => .paramWarn c (u.namesCount c))).log } := by
  rw [State.forEach_warnChannel, State.logged_after hlog hminute]

theorem State.namesCount_congr {s u : State} (h : u.params = s.params) : u.namesCount = s.namesCount := by
  have hchannel : u.namesChannel = s.namesChannel := by
    unfold State.namesChannel State.mapType State.mapChannel State.param
    rw [h]
  unfold State.namesCount
  rw [hchannel]

theorem State.closeWindow_eq (s : State) (cause : ModeCause) : s.closeWindow cause = s.closed cause := by
  obtain ⟨u, hu, hclose⟩ : ∃ u : State,
      u = { s with
        window := none, control := if s.blockGood then s.control else { s.control with mode := .fallback }
        log := (s.logged (s.faultEvents cause)).log } ∧
      s.closeWindow cause = { u.forEach 16 State.warnChannel with sweep := s.inTime 1 100000 } := by
    refine ⟨_, ?_, rfl⟩
    have hevents : ({ s with window := none } : State).faultEvents cause = s.faultEvents cause := rfl
    have hlog := State.logged_log ({ s with window := none } : State) s (s.faultEvents cause) rfl rfl
    refine (State.checked_eq _ cause).trans ?_
    rw [hevents, hlog]
    rfl
  have hcount : u.namesCount = s.namesCount := State.namesCount_congr (by rw [hu])
  rw [hclose, State.warned_eq (s := s) (fs := s.faultEvents cause) (by rw [hu]) (by rw [hu]), hcount, hu]
  show _ = ({ s.logged (s.faultEvents cause ++
    ((List.range 16).filter fun c => 2 ≤ s.namesCount c).map fun c => .paramWarn c (s.namesCount c)) with
    window := none, sweep := s.inTime 1 100000
    control := if s.blockGood then s.control else { s.control with mode := .fallback } } : State)
  exact (congrArg (fun t : State => ({ t with
    window := none, sweep := s.inTime 1 100000
    control := if s.blockGood then s.control else { s.control with mode := .fallback } } : State)) (State.logged_frame _ s)).symm

theorem State.sweepBlock_eq (s : State) :
    s.sweepBlock =
      if s.sweep = none then s
      else if s.blockGood = true ∨ s.control.mode = .fallback then { s with sweep := s.inTime 1 100000 }
      else ({ s with sweep := s.inTime 1 100000, control := { s.control with mode := .fallback } }).logged
        [.paramFault .sweep s.blockSum, .mode .sweep .fallback] := by
  unfold State.sweepBlock
  refine if_congr Option.isNone_iff_eq_none rfl ?_
  have hgood : ({ s with sweep := some (s.now + Config.sweepInterval) } : State).blockGood = s.blockGood := rfl
  dsimp only
  rw [hgood]
  unfold State.paramFault State.enterFallback
  cases s.blockGood <;> cases hmode : s.control.mode <;> simp only [State.append_control, hmode] <;> rfl

theorem runFallbackRelease_eq (s : State) :
    runFallbackRelease s =
      if s.control.mode = .normal ∨ s.window ≠ none then (.state, s)
      else if s.control.tableFault then (.tableFault, s)
      else if (List.range 52).foldl (fun a w => a + s.param w) 0 ≠ 0xFFFFFFFF then (.sumBad, s)
      else (.ok, ({ s with control := { s.control with mode := .normal } }).append (.mode .release .normal)) := by
  unfold runFallbackRelease
  simp only [answer_cons, answer_nil]
  refine if_congr (by simp [Option.isSome_iff_ne_none]) rfl (if_congr Iff.rfl rfl (if_congr ?_ rfl rfl))
  simp [State.blockGood, State.blockSum]

/-- Settles O39: the four commands by their checks, the window's expiry as its closing, and the sweep. -/
theorem modeCommandsAndEditWindow : Obligations.ModeCommandsAndEditWindow := by
  refine ⟨fun s l args htakes => ⟨?_, ?_⟩, fun s l args => ⟨fun htakes => ⟨?_, ?_⟩, fun hrun => ⟨?_, ?_⟩⟩⟩
  · have h := exec_officeWrite (args := args) (l := l) .fallbackEnter htakes rfl rfl (Nat.zero_le _) (e := runFallbackEnter s) rfl
    refine h.trans (congrArg Host.Outcome.next ?_)
    unfold runFallbackEnter State.enterFallback
    cases hmode : s.control.mode <;> rfl
  · have h := exec_officeWrite (args := args) (l := l) .fallbackRelease htakes rfl rfl (Nat.zero_le _) (e := runFallbackRelease s) rfl
    rw [runFallbackRelease_eq] at h
    refine h.trans (congrArg Host.Outcome.next ?_)
    split
    · rfl
    split
    · rfl
    split <;> rfl
  · have h := exec_officeWrite (args := args) (l := l) .paramOpen htakes rfl rfl (Nat.zero_le _) (e := runParamOpen s) rfl
    refine h.trans (congrArg Host.Outcome.next ?_)
    unfold runParamOpen
    cases hwindow : s.window <;> rfl
  · have h := exec_officeWrite (args := args) (l := l) .paramClose htakes rfl rfl (Nat.zero_le _) (e := runParamClose s) rfl
    unfold runParamClose at h
    rw [State.closeWindow_eq] at h
    refine h.trans (congrArg Host.Outcome.next ?_)
    cases hwindow : s.window <;> rfl
  · rw [exec_running .editWindowExpiry rfl hrun]
    refine congrArg Host.Outcome.next ?_
    show s.windowExpired = _
    unfold State.windowExpired
    rw [State.closeWindow_eq]
    exact if_congr Option.isNone_iff_eq_none rfl rfl
  · rw [exec_running .integritySweep rfl hrun]
    exact congrArg Host.Outcome.next s.sweepBlock_eq

/-! ### PARAM WRITE (R152, R154) -/

theorem halves_toNat {hi lo : Nat} (hhi : hi < 65536) (hlo : lo < 65536) : (halves hi lo).toNat = hi * 65536 + lo := by
  rw [halves, BitVec.toNat_ofNat, Nat.mod_eq_of_lt]
  omega

section
variable (v : Word)

/-- The fields of word 0 (R152). -/
theorem storedWord_siteWord :
    (storedWord 0 v).toNat = min 120 (v.toNat % 256) + 256 * min 2 (v.toNat / 256 % 256) +
      65536 * min 64 (v.toNat / 65536 % 256) + 16777216 * max 1 (min 4 (v.toNat / 16777216)) := by
  have hv : v.toNat < 4294967296 := v.isLt
  have ha : clamp 1 4 (bitsOf v 24 8) = max 1 (min 4 (v.toNat / 16777216)) := by rw [bitsOf_eq, clamp]; omega
  have hb : clamp 0 64 (bitsOf v 16 8) = min 64 (v.toNat / 65536 % 256) := by rw [bitsOf_eq, clamp]; omega
  have hc : clamp 0 2 (bitsOf v 8 8) = min 2 (v.toNat / 256 % 256) := by rw [bitsOf_eq, clamp]; omega
  have hd : clamp 0 120 (bitsOf v 0 8) = min 120 (v.toNat % 256) := by rw [bitsOf_eq, clamp]; omega
  have ha4 : max 1 (min 4 (v.toNat / 16777216)) ≤ 4 := by omega
  have hb64 : min 64 (v.toNat / 65536 % 256) ≤ 64 := Nat.min_le_left _ _
  have hc2 : min 2 (v.toNat / 256 % 256) ≤ 2 := Nat.min_le_left _ _
  have hd120 : min 120 (v.toNat % 256) ≤ 120 := Nat.min_le_left _ _
  unfold storedWord
  rw [if_pos rfl, ha, hb, hc, hd]
  generalize max 1 (min 4 (v.toNat / 16777216)) = a at *
  generalize min 64 (v.toNat / 65536 % 256) = b at *
  generalize min 2 (v.toNat / 256 % 256) = c at *
  generalize min 120 (v.toNat % 256) = d at *
  rw [halves_toNat (by omega) (by omega)]
  omega

theorem storedWord_hours {w : Nat} (h1 : 1 ≤ w) (h7 : w ≤ 7) :
    (storedWord w v).toNat = min 1440 (v.toNat % 65536) +
      65536 * max (min 1440 (v.toNat % 65536)) (min 1440 (v.toNat / 65536)) := by
  have hv : v.toNat < 4294967296 := v.isLt
  unfold storedWord
  rw [if_neg (by omega), if_pos h7]
  simp only [bitsOf_eq, clamp]
  rw [halves_toNat (by omega) (by omega)]
  omega

theorem storedWord_times :
    (storedWord 8 v).toNat = max 10 (min 250 (v.toNat % 65536)) + 65536 * max 5 (min 120 (v.toNat / 65536)) := by
  have hv : v.toNat < 4294967296 := v.isLt
  show (halves _ _).toNat = _
  simp only [bitsOf_eq, clamp]
  rw [halves_toNat (by omega) (by omega)]
  omega

theorem storedWord_deadlines :
    (storedWord 9 v).toNat = max 30 (min 600 (v.toNat % 65536)) + 65536 * max 5 (min 600 (v.toNat / 65536)) := by
  have hv : v.toNat < 4294967296 := v.isLt
  show (halves _ _).toNat = _
  simp only [bitsOf_eq, clamp]
  rw [halves_toNat (by omega) (by omega)]
  omega

theorem storedWord_strike :
    (storedWord 10 v).toNat = max 5 (min 100 (v.toNat % 65536)) + 65536 * min 1000 (v.toNat / 65536) := by
  have hv : v.toNat < 4294967296 := v.isLt
  show (halves _ _).toNat = _
  simp only [bitsOf_eq, clamp]
  rw [halves_toNat (by omega) (by omega)]
  omega

theorem storedWord_plain {w : Nat} (h : w = 51 ∨ (11 ≤ w ∧ w ≤ 14)) : storedWord w v = v := by
  unfold storedWord
  rcases h with rfl | ⟨h11, h14⟩
  · rfl
  · rw [if_neg (by omega), if_neg (by omega), if_neg (by omega), if_neg (by omega), if_neg (by omega), if_pos h14]

theorem storedWord_stations {w : Nat} (h15 : 15 ≤ w) (h46 : w ≤ 46) : storedWord w v = v &&& 0x1FF31FF3 := by
  unfold storedWord
  rw [if_neg (by omega), if_neg (by omega), if_neg (by omega), if_neg (by omega), if_neg (by omega), if_neg (by omega),
    if_pos h46]

theorem storedWord_modes {w : Nat} (h47 : 47 ≤ w) (h50 : w ≤ 50) : storedWord w v = v &&& 0x07070707 := by
  unfold storedWord
  rw [if_neg (by omega), if_neg (by omega), if_neg (by omega), if_neg (by omega), if_neg (by omega), if_neg (by omega),
    if_neg (by omega), if_pos h50]

end

theorem runParamWrite_eq (svckey : Bool) (args : List Byte) (s : State) :
    let w := natAt args 0
    let v := longAt args 1
    runParamWrite svckey args s =
      if 52 ≤ w then (.badArgument, s)
      else if s.window = none then (.state, s)
      else if w = 0 ∧ svckey = false ∧ min 64 (v.toNat / 65536 % 256) ≠ s.protectedCount then (.isProtected, s)
      else (.ok, s.storeWord w v) := by
  intro w v
  have hcount : clamp 0 64 (bitsOf v 16 8) = min 64 (v.toNat / 65536 % 256) := by
    rw [bitsOf_eq, clamp]
    omega
  unfold runParamWrite
  simp only [answer_cons, answer_nil]
  rw [hcount]
  refine if_congr (by simp [Config.paramWords, w]) rfl (if_congr Option.isNone_iff_eq_none rfl (if_congr ?_ rfl rfl))
  simp [w, and_assoc]

/-! ### The mode bytes at once (R128 to R130, R79) -/

/-- Mode bytes written, one after another, each compared with the byte it replaces. -/
theorem State.modesWritten_eq (b : State) (old : Nat → Byte) (cs : List Nat) :
    cs.foldl (fun u c => u.modeWritten c (old c)) b =
      (cs.filter fun c => b.modeByte c != old c).foldl (fun u c => u.moveChannel c) b := by
  induction cs using List.reverseRecOn with
  | nil => rfl
  | append_singleton cs c ih =>
    have hparams := (b.moves_params (cs.filter fun c => b.modeByte c != old c)).1
    rw [List.foldl_append, ih, List.filter_append, List.foldl_append]
    generalize (cs.filter fun c => b.modeByte c != old c).foldl (fun u c => u.moveChannel c) b = u at *
    have hbyte : u.modeByte c = b.modeByte c := by
      unfold State.modeByte State.param
      rw [hparams]
    by_cases h : b.modeByte c = old c
    · simp [h, State.modeWritten_same u c (old c) (hbyte.trans h)]
    · simp [h, State.modeWritten_eq u c (old c) (hbyte ▸ h)]

/-- The channels whose mode bytes a word holds. -/
theorem channels_of_word : ∀ k < 4, (List.range 16).filter (fun c => c / 4 == k) = (List.range 4).map fun j => 4 * k + j := by
  decide

/-- The channels that a PARAM WRITE of word `w` reaches: those whose byte it holds and changes. -/
def State.rewritten (s b : State) (w c : Nat) : Bool := c / 4 == w - 47 && b.modeByte c != s.modeByte c

/-- A PARAM WRITE of words 47 to 50 moves the channels it reaches (R154, R128 to R130). -/
theorem State.storeWord_modes (s : State) (v : Word) {w : Nat} (h47 : 47 ≤ w) (h50 : w ≤ 50) :
    let b := s.setParam w (storedWord w v)
    s.storeWord w v = ((List.range 16).filter (s.rewritten b w)).foldl (fun u c => u.moveChannel c) b := by
  intro b
  have hfold : s.storeWord w v =
      ((List.range 4).map fun j => 4 * (w - 47) + j).foldl (fun u c => u.modeWritten c (s.modeByte c)) b := by
    unfold State.storeWord
    rw [if_pos ⟨h47, h50⟩, List.foldl_map]
  rw [hfold, State.modesWritten_eq, ← channels_of_word (w - 47) (by omega), List.filter_filter]
  congr 2
  funext c
  exact Bool.and_comm _ _

theorem State.storeWord_plain (s : State) (v : Word) {w : Nat} (h : ¬(47 ≤ w ∧ w ≤ 50)) :
    s.storeWord w v = s.setParam w (storedWord w v) := by
  unfold State.storeWord
  rw [if_neg h]

/-- A PARAM WRITE writes parameters, channels, stations and log alone. -/
theorem State.storeWord_frame (s : State) (w : Nat) (v : Word) :
    let t := s.storeWord w v
    t = { s with params := t.params, channels := t.channels, stations := t.stations, log := t.log } := by
  intro t
  by_cases h : 47 ≤ w ∧ w ≤ 50
  · have ht : t = _ := s.storeWord_modes v h.1 h.2
    have hmoves := ((s.setParam w (storedWord w v)).moves_eq
      ((List.range 16).filter (s.rewritten (s.setParam w (storedWord w v)) w)) (List.nodup_range.filter _)).1
    rw [← ht] at hmoves
    clear_value t
    have hparams : t.params = (s.setParam w (storedWord w v)).params := by rw [hmoves]
    rw [hparams]
    exact hmoves
  · have ht : t = _ := s.storeWord_plain v h
    rw [ht]
    rfl

/-- Settles O40: the checks in order, then the word with each of its fields brought into its range. -/
theorem paramWrite : Obligations.ParamWrite := by
  intro s l args htakes ha n w v clampedCount
  have hexec := exec_officeWrite (l := l) .paramWrite htakes rfl rfl ha (e := runParamWrite l.svckey args s) rfl
  rw [runParamWrite_eq] at hexec
  refine ⟨fun hw => ?_, fun hw hwindow => ?_, fun hw hwindow hkey hcount => ?_, fun hw hwindow hopen =>
    ⟨s.storeWord w v, storedWord w v, ?_, s.storeWord_param w v, s.storeWord_frame w v, fun hplain => ?_, storedWord_plain v,
      storedWord_stations v, storedWord_modes v, fun h0 => ?_, storedWord_hours v, fun h8 => ?_, fun h9 => ?_, fun h10 => ?_⟩⟩
  · rw [if_pos hw] at hexec
    exact hexec
  · rw [if_neg (Nat.not_le.2 hw), if_pos hwindow] at hexec
    exact hexec
  · rw [if_neg (by omega), if_neg hwindow, if_pos ⟨hw, hkey, hcount⟩] at hexec
    exact hexec
  · rw [if_neg (Nat.not_le.2 hw), if_neg hwindow, if_neg hopen] at hexec
    exact hexec
  · have ht := s.storeWord_plain v (w := w) (by omega)
    rw [ht]
    rfl
  · rw [h0]
    exact storedWord_siteWord v
  · rw [h8]
    exact storedWord_times v
  · rw [h9]
    exact storedWord_deadlines v
  · rw [h10]
    exact storedWord_strike v

/-- The move of a channel, as O41 writes it (R128 to R130). -/
theorem State.channelMoved_cases (s b : State) (c : Nat) :
    s.channelMoved b c =
      let x := s.channel c
      let off : Channel := { x with drive := .off, pickTimer := none }
      if b.unlockedCondition c = true ∧ x.state ≠ .unlocked then
        s.driven { x with state := .unlocked, releaseTimer := none, heldOpenTimer := none }
      else if b.unlockedCondition c = false ∧ x.state ≠ .unlocked ∧ b.channelMode c = .locked then
        { off with releaseTimer := none, state := if x.state = .released then .secure else x.state }
      else if x.state = .unlocked ∧ b.unlockedCondition c = false then
        if x.gateOpen then { off with state := .passing, heldOpenTimer := s.inTime s.heldOpenTime 1000000 }
        else { off with state := .secure }
      else x := by
  unfold State.channelMoved
  refine if_congr (by simp [State.enters]) rfl (if_congr (by simp [State.locks, and_assoc]) rfl rfl)

/-- Settles O41: the word's channels move one after another, each as its new mode says. -/
theorem modeByteWritesActAtOnce : Obligations.ModeByteWritesActAtOnce := by
  intro s l args htakes ha h47 h50 hwindow
  have hexec := exec_officeWrite (l := l) .paramWrite htakes rfl rfl ha (e := runParamWrite l.svckey args s) rfl
  rw [runParamWrite_eq] at hexec
  rw [if_neg (by omega), if_neg hwindow, if_neg (by omega)] at hexec
  refine ⟨_, hexec, ?_⟩
  have hstored := s.storeWord_modes (longAt args 1) h47 h50
  dsimp only at hstored
  generalize hb : s.setParam (natAt args 0) (storedWord (natAt args 0) (longAt args 1)) = b at hstored
  generalize hw : natAt args 0 = w at *
  generalize s.storeWord w (longAt args 1) = t at *
  obtain ⟨hframe, hchannel, hstation, hlog⟩ := b.moves_eq ((List.range 16).filter (s.rewritten b w)) (List.nodup_range.filter _)
  rw [← hstored] at hframe hchannel hstation hlog
  intro s1 changed
  have hs1 : s1 = b := by
    have hparams : t.params = b.params := by rw [hframe]
    show ({ s with params := t.params } : State) = b
    rw [hparams, ← hb]
    rfl
  have hchanged : changed = s.rewritten b w := by
    show (fun c => c / 4 == w - 47 && s1.modeByte c != s.modeByte c) = _
    rw [hs1]
    rfl
  have hreached (c : Nat) : c ∈ (List.range 16).filter (s.rewritten b w) ↔ changed c = true := by
    rw [hchanged, List.mem_filter, List.mem_range, and_iff_right_iff_imp]
    intro h
    simp only [State.rewritten, Bool.and_eq_true, beq_iff_eq] at h
    omega
  have hsame (c : Nat) : b.channel c = s.channel c := by
    rw [← hb]
    rfl
  have hparam {k : Nat} (hk : k < 47) : b.param k = s.param k := by
    rw [← hb, State.setParam_param, if_neg (by omega)]
  have hnow : b.now = s.now := by rw [← hb, State.setParam_now]
  have hpick : b.pickTime = s.pickTime := by rw [State.pickTime, State.pickTime, hparam (by omega)]
  have hheld : b.heldOpenTime = s.heldOpenTime := by rw [State.heldOpenTime, State.heldOpenTime, hparam (by omega)]
  have hwindowEnd : b.windowEnd = .window (s.now + s.passageWindow * 1000000) := by
    rw [State.windowEnd, State.passageWindow, hparam (by omega), hnow]
    rfl
  have hdriven (x : Channel) : s.driven x = b.driven x := by
    rw [State.driven, State.driven, State.inTime, State.inTime, hpick, hnow]
  have henters (c : Nat) : s.enters s1 c = b.enters b c := by
    rw [hs1, State.enters, State.enters, hsame]
  have hlocks (c : Nat) : s.locks s1 c = b.locks b c := by
    rw [hs1, State.locks, State.locks, hsame]
  refine ⟨fun c hc => ?_, fun c hc => ?_, fun n => ?_, ?_, ?_⟩
  · rw [hchannel, if_neg (fun h => by rw [(hreached c).1 h] at hc; nomatch hc), hsame]
  · rw [hchannel, if_pos ((hreached c).2 hc), ← State.channelMoved_eq s s1 b c (henters c) (hlocks c) (by rw [hs1]) (hsame c)
      hdriven (by rw [State.inTime, State.inTime, hheld, hnow])]
    exact s.channelMoved_cases s1 c
  · rw [hstation, State.handedWindow_eq s b _ changed n hsame (by rw [← hb]; rfl) hwindowEnd fun c => by
      rw [henters, hlocks], hchanged]
  · rw [hlog, State.restoredEvents_eq s s1 b changed henters hsame, hchanged]
    exact State.logged_log _ _ _ (by rw [← hb]; rfl) (by rw [← hb]; rfl)
  · rw [hframe, ← hb]
    rfl

end Sys2Proof.Machine
end

section
/-! The fire latch (9.4): its setting, which abandons every trip and passage and opens the channels, and its clearing. -/

namespace Sys2Proof.Machine

set_option Elab.async false -- one thread for the file, as in the tests: a thread for each theorem reaches the memory limit

/-! ### Trips abandoned (R100) -/

/-- A car after its trip, if it makes one, was abandoned FIRE. -/
def CarSlot.fired (x : CarSlot) : CarSlot :=
  match x.state with
  | .trip _ => { x with state := .idle }
  | _ => x

/-- The record of that abandonment. -/
def CarSlot.fireEvent (n : Nat) (x : CarSlot) : Option Event :=
  match x.state with
  | .trip tr => some (.tripAbandoned .fire n (tr.holder.map (·.slot)))
  | _ => none

theorem State.fireCar_eq (n : Nat) (u : State) :
    let t := State.fireCar n u
    t = { u with cars := t.cars, log := (u.logged ((u.car n).fireEvent n).toList).log } ∧
      ∀ k, t.car k = if k = n then (u.car k).fired else u.car k := by
  have hsame (h : (u.car n).fired = u.car n) (k : Nat) : u.car k = if k = n then (u.car k).fired else u.car k := by
    by_cases hk : k = n
    · rw [if_pos hk, hk, h]
    · rw [if_neg hk]
  unfold State.fireCar CarSlot.fireEvent
  unfold CarSlot.fired at *
  cases hstate : (u.car n).state with
  | trip tr =>
    refine ⟨rfl, fun k => ?_⟩
    show ((u.append _).setCar n _).car k = _
    rw [State.setCar_car, State.append_car, State.append_car]
    by_cases hk : k = n
    · rw [if_pos hk, if_pos hk, hk, hstate]
    · rw [if_neg hk, if_neg hk]
  | _ => exact ⟨rfl, hsame (by rw [hstate])⟩

/-- One more item rewritten. -/
theorem ite_lt_succ {α : Type} (g : α → α) (x : α) (k n : Nat) :
    (if k = n then g (if k < n then g x else x) else if k < n then g x else x) = if k < n + 1 then g x else x := by
  rcases Nat.lt_trichotomy k n with h | rfl | h
  · rw [if_neg (by omega), if_pos h, if_pos (by omega)]
  · rw [if_pos rfl, if_neg (Nat.lt_irrefl _), if_pos (by omega)]
  · rw [if_neg (by omega), if_neg (by omega), if_neg (by omega)]

theorem filterMap_range_succ {α : Type} (f : Nat → Option α) (n : Nat) :
    (List.range (n + 1)).filterMap f = (List.range n).filterMap f ++ (f n).toList := by
  rw [List.range_succ, List.filterMap_append]
  cases h : f n <;> simp [h]

theorem State.fireCars_eq (b : State) (n : Nat) :
    let t := b.forEach n State.fireCar
    t = { b with cars := t.cars, log := (b.logged ((List.range n).filterMap fun k => (b.car k).fireEvent k)).log } ∧
      ∀ k, t.car k = if k < n then (b.car k).fired else b.car k := by
  induction n with
  | zero => exact ⟨rfl, fun k => rfl⟩
  | succ n ih =>
    simp only [State.forEach_succ]
    generalize b.forEach n State.fireCar = u at ih
    obtain ⟨hframe, hcar⟩ := ih
    obtain ⟨hframe', hcar'⟩ := State.fireCar_eq n u
    have hn : u.car n = b.car n := by rw [hcar, if_neg (Nat.lt_irrefl n)]
    have hlog : u.log = (b.logged ((List.range n).filterMap fun k => (b.car k).fireEvent k)).log := by rw [hframe]
    have hminute : u.clock.minute = b.clock.minute := by rw [hframe]
    refine ⟨?_, fun k => ?_⟩
    · rw [State.logged_after hlog hminute, hn, ← filterMap_range_succ (fun k => (b.car k).fireEvent k)] at hframe'
      refine hframe'.trans ?_
      exact congrArg (fun v : State => { v with
        cars := (State.fireCar n u).cars
        log := (b.logged ((List.range (n + 1)).filterMap fun k => (b.car k).fireEvent k)).log }) hframe
    · rw [hcar' k, hcar k]
      exact ite_lt_succ CarSlot.fired _ k n

/-! ### Passages abandoned (R85) -/

/-- A station after its passage, if it holds one, was abandoned FIRE. -/
def StationSlot.fired (x : StationSlot) : StationSlot :=
  match x.state with
  | .passage _ => { x with state := .ready }
  | _ => x

/-- The record of that abandonment. -/
def StationSlot.fireEvent (n : Nat) (x : StationSlot) : Option Event :=
  match x.state with
  | .passage p => some (.passageAbandoned .fire n (p.holder.map (·.slot)))
  | _ => none

/-- A channel that has stopped carrying the passages of the stations below `n`. -/
def Channel.dropBelow (n : Nat) (x : Channel) : Channel := { x with carried := x.carried.filter fun k => decide (n ≤ k) }

theorem Channel.dropBelow_zero (x : Channel) : x.dropBelow 0 = x := by
  obtain ⟨_, _, _, _, _, _, carried, _⟩ := x
  cases carried <;> rfl

theorem Channel.dropBelow_carried {n : Nat} {x : Channel} : (x.dropBelow n).carried = some n ↔ x.carried = some n := by
  unfold Channel.dropBelow
  simp only [Option.filter_eq_some_iff]
  simp

theorem Channel.dropBelow_succ {n : Nat} {x : Channel} :
    x.dropBelow (n + 1) = if x.carried = some n then { x.dropBelow n with carried := none } else x.dropBelow n := by
  unfold Channel.dropBelow
  split
  case isTrue h => simp [h]
  case isFalse h =>
    cases hc : x.carried with
    | none => rfl
    | some k =>
      have hk : k ≠ n := fun hk => h (by rw [hc, hk])
      simp only [Option.filter_some, decide_eq_true_eq]
      congr 1
      exact if_congr (by omega) rfl rfl

/-- The end of a passage at the channel it names, by what every channel carries. -/
theorem State.detach_channel (u : State) (n : Nat) (named : Option Nat)
    (h : ∀ c, (u.channel c).carried = some n → named = some c) (c : Nat) :
    (u.detach n named).channel c =
      if (u.channel c).carried = some n then { u.channel c with carried := none } else u.channel c := by
  unfold State.detach
  cases named with
  | none =>
    rw [if_neg fun hc => nomatch h c hc]
  | some d =>
    dsimp only
    by_cases hd : (u.channel d).carried = some n
    · rw [if_pos hd, State.setChannel_channel]
      by_cases hc : c = d
      · rw [if_pos hc, hc, if_pos hd]
      · rw [if_neg hc, if_neg fun hcarried => hc (Option.some.inj (h c hcarried)).symm]
    · rw [if_neg hd]
      by_cases hcarried : (u.channel c).carried = some n
      · exact absurd (Option.some.inj (h c hcarried) ▸ hcarried) hd
      · rw [if_neg hcarried]

theorem State.detach_frame (u : State) (n : Nat) (named : Option Nat) :
    u.detach n named = { u with channels := (u.detach n named).channels } := by
  unfold State.detach
  cases named with
  | none => rfl
  | some d =>
    dsimp only
    split <;> rfl

theorem State.detach_station (u : State) (n : Nat) (named : Option Nat) (k : Nat) :
    (u.detach n named).station k = u.station k := by
  rw [State.detach_frame]
  rfl

/-- The fire latch's setting at one station, where what a channel carries is in flight and names it (R85, R132). -/
theorem State.fireStation_eq (n : Nat) (u : State)
    (h : ∀ c, (u.channel c).carried = some n → ∃ p, (u.station n).state = .passage p ∧ p.channel = some c) :
    let t := State.fireStation n u
    t = { u with
      stations := t.stations, channels := t.channels, log := (u.logged ((u.station n).fireEvent n).toList).log } ∧
      (∀ k, t.station k = if k = n then (u.station k).fired else u.station k) ∧
      ∀ c, t.channel c = if (u.channel c).carried = some n then { u.channel c with carried := none } else u.channel c := by
  have hsame (hs : (u.station n).fired = u.station n) (k : Nat) :
      u.station k = if k = n then (u.station k).fired else u.station k := by
    by_cases hk : k = n
    · rw [if_pos hk, hk, hs]
    · rw [if_neg hk]
  unfold State.fireStation StationSlot.fireEvent
  unfold StationSlot.fired at *
  cases hstate : (u.station n).state with
  | passage p =>
    have hnamed (c : Nat) (hc : (u.channel c).carried = some n) : p.channel = some c := by
      obtain ⟨q, hq, hchannel⟩ := h c hc
      rw [hstate] at hq
      cases hq
      exact hchannel
    dsimp only
    rw [State.abandonPassage_eq]
    refine ⟨?_, fun k => ?_, fun c => State.detach_channel ((u.append (.passageAbandoned .fire n p.tenant)).setStation n
      { u.station n with state := .ready }) n p.channel hnamed c⟩
    · rw [State.detach_frame]
      rfl
    · refine ((State.detach_station _ n p.channel k).trans (State.setStation_station _ _ _ _)).trans ?_
      by_cases hk : k = n
      · rw [if_pos hk, if_pos hk, hk, hstate]
        rfl
      · rw [if_neg hk, if_neg hk]
        rfl
  | _ =>
    refine ⟨rfl, hsame (by rw [hstate]), fun c => ?_⟩
    rw [if_neg]
    intro hc
    obtain ⟨q, hq, -⟩ := h c hc
    rw [hstate] at hq
    cases hq

theorem State.fireStations_eq (b : State) (hlaw : b.carriedLaw) (n : Nat) :
    let t := b.forEach n State.fireStation
    t = { b with
      stations := t.stations, channels := t.channels
      log := (b.logged ((List.range n).filterMap fun k => (b.station k).fireEvent k)).log } ∧
      (∀ k, t.station k = if k < n then (b.station k).fired else b.station k) ∧
      ∀ c, t.channel c = (b.channel c).dropBelow n := by
  induction n with
  | zero => exact ⟨rfl, fun k => rfl, fun c => (Channel.dropBelow_zero _).symm⟩
  | succ n ih =>
    simp only [State.forEach_succ]
    generalize b.forEach n State.fireStation = u at ih
    obtain ⟨hframe, hstation, hchannel⟩ := ih
    have hn : u.station n = b.station n := by rw [hstation, if_neg (Nat.lt_irrefl n)]
    have hcarried (c : Nat) : (u.channel c).carried = some n ↔ (b.channel c).carried = some n := by
      rw [hchannel]
      exact Channel.dropBelow_carried
    obtain ⟨hframe', hstation', hchannel'⟩ := State.fireStation_eq n u fun c hc => by
      rw [hn]
      exact (hlaw c n ((hcarried c).1 hc)).2
    have hlog : u.log = (b.logged ((List.range n).filterMap fun k => (b.station k).fireEvent k)).log := by rw [hframe]
    have hminute : u.clock.minute = b.clock.minute := by rw [hframe]
    refine ⟨?_, fun k => ?_, fun c => ?_⟩
    · rw [State.logged_after hlog hminute, hn, ← filterMap_range_succ (fun k => (b.station k).fireEvent k)] at hframe'
      refine hframe'.trans ?_
      exact congrArg (fun v : State => { v with
        stations := (State.fireStation n u).stations, channels := (State.fireStation n u).channels
        log := (b.logged ((List.range (n + 1)).filterMap fun k => (b.station k).fireEvent k)).log }) hframe
    · rw [hstation' k, hstation k]
      exact ite_lt_succ StationSlot.fired _ k n
    · rw [hchannel' c, Channel.dropBelow_succ, hchannel c]
      exact if_congr Channel.dropBelow_carried rfl rfl

/-- After the stations that exist, no channel carries a passage (R132). -/
theorem Channel.dropBelow_all {b : State} (hlaw : b.carriedLaw) (c : Nat) :
    (b.channel c).dropBelow 64 = { b.channel c with carried := none } := by
  unfold Channel.dropBelow
  cases hc : (b.channel c).carried with
  | none => rfl
  | some k =>
    have hk : k < 64 := (hlaw c k hc).1
    rw [Option.filter_some, if_neg (by simp [hk])]

/-! ### The channels at the latch's setting (R131) -/

theorem State.driven_carried (s : State) (x : Channel) : (s.driven x).carried = x.carried := by
  unfold State.driven
  split <;> rfl

theorem State.channelMoved_carried (s b : State) (c : Nat) : (s.channelMoved b c).carried = (s.channel c).carried := by
  unfold State.channelMoved
  dsimp only
  split
  · exact State.driven_carried _ _
  split
  · rfl
  split
  · split <;> rfl
  · rfl

/-- With the latch set, a channel that is not fire-secure moves as any change of the unlocked condition moves it. -/
theorem State.fireChannel_eq {u : State} {c : Nat} (hlatch : u.control.fireLatch = true) (hc : (u.channel c).carried = none) :
    State.fireChannel c u = if u.fireSecure c then u else u.moveChannel c := by
  unfold State.fireChannel State.moveChannel State.enters State.locks
  cases hsecure : u.fireSecure c
  · have hcond : u.unlockedCondition c = true := by simp [State.unlockedCondition, hlatch, hsecure]
    by_cases hstate : (u.channel c).state = .unlocked
    · simp [hstate, hcond]
    · have hhand : (u.enterUnlocked c).handWindow c = u.enterUnlocked c := by
        refine State.withCarried_none fun n p hn => ?_
        unfold State.enterUnlocked at hn
        rw [State.setChannel_channel_same, State.driveOn_eq, State.driven_carried, hc] at hn
        nomatch hn
      simp [hstate, hcond, hhand]
  · simp

/-- The channels that are not fire-secure move one after another, where none carries a passage (R131). -/
theorem State.fireChannels_eq (b : State) (hlatch : b.control.fireLatch = true) (hcarried : ∀ c, (b.channel c).carried = none)
    (cs : List Nat) (hn : cs.Nodup) :
    cs.foldl (fun u c => State.fireChannel c u) b =
      (cs.filter fun c => !b.fireSecure c).foldl (fun u c => u.moveChannel c) b := by
  induction cs using List.reverseRecOn with
  | nil => rfl
  | append_singleton cs c ih =>
    have hcs := (List.nodup_append.1 hn).1
    obtain ⟨hframe, hchannel, -⟩ := b.moves_eq (cs.filter fun c => !b.fireSecure c) (hcs.filter _)
    rw [List.foldl_append, ih hcs, List.filter_append, List.foldl_append]
    generalize (cs.filter fun c => !b.fireSecure c).foldl (fun u c => u.moveChannel c) b = u at *
    have hc : (u.channel c).carried = none := by
      rw [hchannel]
      split
      exacts [(b.channelMoved_carried b c).trans (hcarried c), hcarried c]
    have hsecure : u.fireSecure c = b.fireSecure c := by
      rw [hframe]
      rfl
    have hfire := State.fireChannel_eq (u := u) (by rw [hframe]; exact hlatch) hc
    rw [hsecure] at hfire
    cases hs : b.fireSecure c <;> simp [hfire, hs]

/-- The unlocked condition reads of mode control the latch alone (R119). -/
theorem State.unlockedCondition_of {u b : State} (hp : u.params = b.params) (hc : u.clock = b.clock)
    (hk : u.control.fireLatch = b.control.fireLatch) (c : Nat) : u.unlockedCondition c = b.unlockedCondition c := by
  unfold State.unlockedCondition State.channelMode State.fireSecure State.modeByte State.param
  rw [hp, hc, hk]

theorem State.driven_congr {u b : State} (hp : u.params = b.params) (hn : u.now = b.now) (x : Channel) :
    u.driven x = b.driven x := by
  unfold State.driven State.inTime State.pickTime State.param
  rw [hp, hn]

/-- The entries into UNLOCKED that are recorded depend on the channels' states alone (R128). -/
theorem State.restoredEvents_congr {s v : State} (h : ∀ c, (v.channel c).state = (s.channel c).state) (s1 : State)
    (reached : Nat → Bool) : s.restoredEvents s1 reached = v.restoredEvents s1 reached := by
  unfold State.restoredEvents State.enters
  simp only [h]

/-- The state right after the latch is set, before the setting is handed on (R158). -/
def State.latched (s : State) : State :=
  (s.setControl { s.control with fireLive := true, fireLatch := true }).append .fireOn

/-- The engine's part of the latch's setting (R85, R100): every trip, then every passage, is abandoned. -/
theorem State.fireEngine_eq (s : State) (hlaw : s.carriedLaw) :
    let v := s.latched.fireEngine
    v = { s with
      cars := v.cars, stations := v.stations, channels := v.channels, control := s.latched.control
      log := (s.logged (Event.fireOn :: (List.range 4).filterMap (fun n => (s.car n).fireEvent n) ++
        (List.range 64).filterMap fun n => (s.station n).fireEvent n)).log } ∧
      (∀ n < 4, v.car n = (s.car n).fired) ∧ (∀ n < 64, v.station n = (s.station n).fired) ∧
      ∀ c, v.channel c = { s.channel c with carried := none } := by
  intro v
  obtain ⟨hcars, hcar⟩ := s.latched.fireCars_eq 4
  have hv : v = (s.latched.forEach 4 State.fireCar).forEach 64 State.fireStation := rfl
  generalize s.latched.forEach 4 State.fireCar = u at *
  have hlaw' : u.carriedLaw := by
    rw [hcars]
    exact hlaw
  obtain ⟨hstations, hstation, hchannel⟩ := u.fireStations_eq hlaw' 64
  rw [← hv] at hstations hstation hchannel
  clear_value v
  have hulog : u.log = (s.logged (Event.fireOn :: (List.range 4).filterMap fun n => (s.car n).fireEvent n)).log := by
    rw [hcars]
    exact State.logged_log _ (s.append .fireOn) _ rfl rfl
  have hminute : u.clock.minute = s.clock.minute := by rw [hcars]; rfl
  have hustation (n : Nat) : u.station n = s.station n := by rw [hcars]; rfl
  have huchannel (c : Nat) : u.channel c = s.channel c := by rw [hcars]; rfl
  simp only [hustation] at hstations hstation
  have hvlog := congrArg State.log (State.logged_after hulog hminute ((List.range 64).filterMap fun n => (s.station n).fireEvent n))
  have hvcar (n : Nat) : v.car n = u.car n := by rw [hstations]; rfl
  refine ⟨?_, fun n hn => ?_, fun n hn => ?_, fun c => ?_⟩
  · have hvcars : v.cars = u.cars := by rw [hstations]
    refine hstations.trans ?_
    rw [hvlog, hvcars]
    exact congrArg (fun w : State => { w with
      stations := v.stations, channels := v.channels
      log := (s.logged (Event.fireOn :: (List.range 4).filterMap (fun n => (s.car n).fireEvent n) ++
        (List.range 64).filterMap fun n => (s.station n).fireEvent n)).log }) hcars
  · rw [hvcar, hcar, if_pos hn]
    rfl
  · rw [hstation, if_pos hn]
  · rw [hchannel, Channel.dropBelow_all hlaw', huchannel]

/-! ### The channels at the latch's clearing (R129, R131) -/

/-- A fold over the channels whose steps each rewrite one channel by a function of that channel. -/
theorem State.forEach_channels (b : State) (g : Nat → Channel → Channel) {f : Nat → State → State}
    (hf : ∀ c u, u = { b with channels := u.channels } →
      f c u = { u with channels := (f c u).channels } ∧
        ∀ d, (f c u).channel d = if d = c then g c (u.channel c) else u.channel d) (n : Nat) :
    let t := b.forEach n f
    t = { b with channels := t.channels } ∧ ∀ c, t.channel c = if c < n then g c (b.channel c) else b.channel c := by
  induction n with
  | zero => exact ⟨rfl, fun c => rfl⟩
  | succ n ih =>
    simp only [State.forEach_succ]
    generalize b.forEach n f = u at ih
    obtain ⟨hframe, hchannel⟩ := ih
    obtain ⟨hframe', hchannel'⟩ := hf n u hframe
    refine ⟨?_, fun c => ?_⟩
    · exact hframe'.trans (congrArg (fun v : State => { v with channels := (f n u).channels }) hframe)
    · rw [hchannel' c, hchannel c, hchannel n, if_neg (Nat.lt_irrefl n)]
      by_cases hc : c = n
      · rw [if_pos hc, if_pos (by omega), hc]
      · rw [if_neg hc]
        exact if_congr (by omega) rfl rfl

/-- Channel `c` after the latch was cleared, leaving `s` (R129). -/
def State.clearedChannel (s : State) (c : Nat) (x : Channel) : Channel :=
  let off : Channel := { x with drive := .off, pickTimer := none }
  if x.state = .unlocked ∧ s.unlockedCondition c = false then
    if x.gateOpen then { off with state := .passing, heldOpenTimer := s.inTime s.heldOpenTime 1000000 }
    else { off with state := .secure }
  else x

theorem State.clearChannel_eq (c : Nat) (u b : State)
    (hu : u = { b.append .fireCleared with channels := u.channels }) :
    State.clearChannel c u = { u with channels := (State.clearChannel c u).channels } ∧
      ∀ d, (State.clearChannel c u).channel d = if d = c then b.clearedChannel c (u.channel c) else u.channel d := by
  have hcond : u.unlockedCondition c = b.unlockedCondition c :=
    State.unlockedCondition_of (by rw [hu]; rfl) (by rw [hu]; rfl) (by rw [hu]; rfl) c
  have htime : u.heldOpenEnd = b.inTime b.heldOpenTime 1000000 := by
    rw [hu]
    rfl
  unfold State.clearChannel State.clearedChannel
  rw [hcond]
  by_cases h : (u.channel c).state = .unlocked ∧ b.unlockedCondition c = false
  · rw [if_pos (by simp [h])]
    refine ⟨rfl, fun d => ?_⟩
    unfold State.leaveUnlocked
    rw [State.setChannel_channel, htime]
    simp only [h, and_self, if_true]
    rfl
  · rw [if_neg (by simpa using h)]
    refine ⟨rfl, fun d => ?_⟩
    by_cases hd : d = c
    · rw [if_pos hd, if_neg h, hd]
    · rw [if_neg hd]

theorem runFireClear_eq (s : State) :
    runFireClear s =
      if s.control.fireLive then (.state, s)
      else if s.control.fireLatch = false then (.state, s)
      else (.ok, (({ s with control := { s.control with fireLatch := false } } : State).append .fireCleared).forEach 16
        State.clearChannel) := by
  unfold runFireClear
  simp only [answer_cons, answer_nil, Bool.not_eq_true']
  rfl

/-- Settles O42: the latch's setting is the engine's part and then the channels' moves; its clearing moves channels only. -/
theorem fireInputAndFireClear : Obligations.FireInputAndFireClear := by
  refine ⟨fun s hrun => ⟨?_, fun hlive => ?_, fun hlive hlatch => ?_, fun hlive hlatch hlaw _ => ?_⟩, fun s l args htakes => ?_⟩
  · rw [exec_running .fireInputInactive rfl hrun]
    rfl
  · rw [exec_running .fireInputActive rfl hrun]
    exact congrArg Host.Outcome.next (if_pos hlive)
  · rw [exec_running .fireInputActive rfl hrun]
    refine congrArg Host.Outcome.next ?_
    show s.fireActive = _
    unfold State.fireActive
    have hcontrol : ({ s.control with fireLive := true, fireLatch := true } : Control) = { s.control with fireLive := true } := by
      simp only [hlatch]
    rw [if_neg (by rw [hlive]; nofun)]
    dsimp only
    rw [if_pos hlatch, hcontrol]
    rfl
  · have hexec : exec .fireInputActive s = .next (s.latched.fireEngine.forEach 16 State.fireChannel) := by
      rw [exec_running .fireInputActive rfl hrun]
      refine congrArg Host.Outcome.next ?_
      show s.fireActive = _
      unfold State.fireActive
      rw [hlive, hlatch]
      rfl
    obtain ⟨hframe, hcar, hstation, hchannel⟩ := s.fireEngine_eq hlaw
    generalize s.latched.fireEngine = v at *
    have hcontrol : v.control = s.latched.control := by rw [hframe]
    have hparams : v.params = s.params := by rw [hframe]
    have hclock : v.clock = s.clock := by rw [hframe]
    have hsecure : v.fireSecure = s.fireSecure := by
      funext c
      unfold State.fireSecure State.modeByte State.param
      rw [hparams]
    have hlatched : v.control.fireLatch = true := by rw [hcontrol]; rfl
    have hmoves := State.fireChannels_eq v hlatched (fun c => by rw [hchannel]) (List.range 16) List.nodup_range
    rw [hsecure] at hmoves
    obtain ⟨mframe, mchannel, mstation, mlog⟩ := v.moves_eq ((List.range 16).filter fun c => !s.fireSecure c)
      (List.nodup_range.filter _)
    rw [← hmoves] at mframe mchannel mstation mlog
    refine ⟨_, hexec, ?_⟩
    rw [show v.forEach 16 State.fireChannel = (List.range 16).foldl (fun u c => State.fireChannel c u) v from rfl]
    generalize (List.range 16).foldl (fun u c => State.fireChannel c u) v = t at *
    have hcond (c : Nat) : ({ s with control := { s.control with fireLatch := true } } : State).unlockedCondition c =
        v.unlockedCondition c :=
      State.unlockedCondition_of (u := { s with control := { s.control with fireLatch := true } }) hparams.symm hclock.symm
        hlatched.symm c
    refine ⟨?_, fun n hn => ?_, fun n hn => ?_, fun c hc => ?_, ?_⟩
    · rw [mlog, State.restoredEvents_congr (v := v) (fun c => by rw [hchannel]), State.restoredEvents_eq v _ v _
        (fun c => by simp only [State.enters, hcond]) fun _ => rfl]
      have hvlog : v.log = (s.logged (Event.fireOn :: (List.range 4).filterMap (fun n => (s.car n).fireEvent n) ++
          (List.range 64).filterMap fun n => (s.station n).fireEvent n)).log := by rw [hframe]
      refine (congrArg State.log (State.logged_after hvlog (by rw [hclock]) _)).trans ?_
      rfl
    · have htcar : t.car n = v.car n := by rw [mframe]; rfl
      rw [htcar, hcar n hn]
      rfl
    · rw [mstation, if_neg, hstation n hn]
      · rfl
      · rintro ⟨c, -, -, hc⟩
        rw [hchannel] at hc
        nomatch hc
    · rw [mchannel]
      cases hs : s.fireSecure c with
      | true =>
        rw [if_neg (by simp [hs]), hchannel, if_neg (by simp)]
      | false =>
        have hc' : v.unlockedCondition c = true := by simp [State.unlockedCondition, hlatched, hsecure, hs]
        rw [if_pos (by simp [hs, hc]), State.channelMoved_cases, hc', hchannel]
        by_cases hstate : (s.channel c).state = .unlocked
        · simp [hstate]
        · simp only [hstate, ne_eq, not_false_iff, and_self, if_true]
          rw [State.driven_congr hparams (by rw [hframe])]
          unfold State.driven
          dsimp only
          split <;> rfl
    · have htcontrol : t.control = s.latched.control := by rw [mframe]; exact hcontrol
      have htcars : t.cars = v.cars := by rw [mframe]
      refine mframe.trans ?_
      rw [htcars]
      exact congrArg (fun w : State => { w with channels := t.channels, stations := t.stations, log := t.log }) hframe
  · intro n cleared
    have hexec := exec_officeWrite (args := args) (l := l) .fireClear htakes rfl rfl (Nat.zero_le _) (e := runFireClear s) rfl
    rw [runFireClear_eq] at hexec
    refine ⟨fun hrefused => ?_, fun hlive hlatch => ?_⟩
    · refine hexec.trans (congrArg Host.Outcome.next ?_)
      cases hlive : s.control.fireLive
      · rw [if_neg Bool.false_ne_true, if_pos (hrefused.resolve_left (by rw [hlive]; nofun))]
        rfl
      · rfl
    · rw [if_neg (by rw [hlive]; nofun), if_neg (by rw [hlatch]; nofun)] at hexec
      obtain ⟨hframe, hchannel⟩ := State.forEach_channels (cleared.append .fireCleared) cleared.clearedChannel
        (fun c u hu => State.clearChannel_eq c u cleared hu) 16
      generalize (cleared.append .fireCleared).forEach 16 State.clearChannel = t at *
      refine ⟨t, hexec, hframe, fun c hc => (hchannel c).trans ?_⟩
      rw [if_pos hc]
      rfl

end Sys2Proof.Machine
end

section
/-! Restarts (9.5): the restart rule of mode control with the channels' placement, and what the kinds of reset set, clear and
keep. -/

namespace Sys2Proof.Machine

set_option Elab.async false -- one thread for the file, as in the tests: a thread for each theorem reaches the memory limit

/-! ### The channels' placement (R118) -/

/-- Channel `c` after a reset, by its condition and the line levels. -/
def State.placed (s : State) (l : Lines) (c : Nat) : Channel :=
  { state := if s.unlockedCondition c then .unlocked else if l.gate.getLsbD c then .forced else .secure
    gateOpen := l.gate.getLsbD c, egress := l.egress.getLsbD c, carried := none, releaseTimer := none
    heldOpenTimer := none
    drive := if s.unlockedCondition c then .pick else .off
    pickTimer := if s.unlockedCondition c then s.inTime s.pickTime 10000 else none }

/-- The placement is FORCED, which appends GATE_FORCED (R118). -/
def State.placedForced (s : State) (l : Lines) (c : Nat) : Bool := l.gate.getLsbD c && !s.unlockedCondition c

theorem State.placed_congr {u b : State} (hp : u.params = b.params) (hc : u.clock = b.clock)
    (hk : u.control.fireLatch = b.control.fireLatch) (hn : u.now = b.now) (l : Lines) (c : Nat) :
    u.placed l c = b.placed l c := by
  unfold State.placed State.inTime State.pickTime State.param
  rw [State.unlockedCondition_of hp hc hk, hp, hn]

theorem State.placeChannel_eq (u : State) (l : Lines) (c : Nat) :
    u.placeChannel c (freshChannel l c) =
      (u.setChannel c (u.placed l c)).logged (if u.placedForced l c then [.gateForced c] else []) := by
  unfold State.placeChannel State.placed State.placedForced
  cases hcond : u.unlockedCondition c
  · cases hgate : l.gate.getLsbD c <;> simp [freshChannel, hgate]
  · simp only [if_true, Bool.not_true, Bool.and_false, Bool.false_eq_true, if_false]
    rfl

theorem State.placeChannels_upTo (u : State) (l : Lines) (n : Nat) :
    let t := u.forEach n fun c s => s.placeChannel c (freshChannel l c)
    t = { u with
      channels := t.channels, log := (u.logged (((List.range n).filter (u.placedForced l)).map Event.gateForced)).log } ∧
      ∀ c, t.channel c = if c < n then u.placed l c else u.channel c := by
  induction n with
  | zero => exact ⟨rfl, fun c => rfl⟩
  | succ n ih =>
    simp only [State.forEach_succ]
    generalize u.forEach n (fun c s => s.placeChannel c (freshChannel l c)) = v at ih
    obtain ⟨hframe, hchannel⟩ := ih
    have hplaced (c : Nat) : v.placed l c = u.placed l c :=
      State.placed_congr (by rw [hframe]) (by rw [hframe]) (by rw [hframe]) (by rw [hframe]) l c
    have hforced (c : Nat) : v.placedForced l c = u.placedForced l c := by
      unfold State.placedForced
      rw [State.unlockedCondition_of (b := u) (by rw [hframe]) (by rw [hframe]) (by rw [hframe])]
    have hlog : v.log = (u.logged (((List.range n).filter (u.placedForced l)).map Event.gateForced)).log := by rw [hframe]
    rw [State.placeChannel_eq, hplaced, hforced]
    refine ⟨?_, fun c => ?_⟩
    · rw [State.logged_after (u := v.setChannel n (u.placed l n)) (s := u)
        (fs := ((List.range n).filter (u.placedForced l)).map Event.gateForced) hlog (by rw [hframe]; rfl), List.range_succ, List.filter_append, List.map_append]
      have hlast : ([n].filter (u.placedForced l)).map Event.gateForced =
          if u.placedForced l n then [Event.gateForced n] else [] := by
        cases h : u.placedForced l n <;> simp [h]
      rw [hlast]
      exact congrArg (fun w : State => { w with
        channels := (v.setChannel n (u.placed l n)).channels
        log := (u.logged (((List.range n).filter (u.placedForced l)).map Event.gateForced ++
          if u.placedForced l n then [Event.gateForced n] else [])).log }) hframe
    · rw [State.logged_channel, State.setChannel_channel, hchannel]
      by_cases hc : c = n
      · rw [if_pos hc, if_pos (by omega), hc]
      · rw [if_neg hc]
        exact if_congr (by omega) rfl rfl

/-! ### The restart rule (R161, R162) -/

/-- The control state a restart sets (R161, R162). -/
def State.restarted (s : State) (cause : ResetCause) (l : Lines) (checkFailed : Bool) : Control :=
  { mode := if (s.control.tableFault || checkFailed) = false ∧ s.blockGood = true then .normal else .fallback
    fireLive := l.fire, fireLatch := s.control.fireLatch || l.fire, tableFault := s.control.tableFault || checkFailed
    resetCause := cause }

/-- The check's outcome, the mode and the fire level are taken, with their records (R161, R162). -/
theorem State.restart_levels (s : State) (cause : ResetCause) (level checkFailed : Bool) (m : Mode) :
    let u := (s.setControl { s.control with resetCause := cause }).noteCheck checkFailed
    ((u.setControl { u.control with mode := m }).append (.reset cause m (s.control.tableFault || checkFailed))).takeFireLevel
        level =
      { s with
        control := { mode := m, fireLive := level, fireLatch := s.control.fireLatch || level
                     tableFault := s.control.tableFault || checkFailed, resetCause := cause }
        log := (s.logged (.reset cause m (s.control.tableFault || checkFailed) :: if level then [.fireOn] else [])).log } := by
  have hcheck : (s.setControl { s.control with resetCause := cause }).noteCheck checkFailed =
      s.setControl { s.control with resetCause := cause, tableFault := s.control.tableFault || checkFailed } := rfl
  have hset (a b : Control) : (s.setControl a).setControl b = s.setControl b := rfl
  dsimp only
  rw [hcheck, hset, State.setControl_control]
  generalize hx : ({ s.control with resetCause := cause, tableFault := s.control.tableFault || checkFailed } : Control) = x
  have hlevel (b : Bool) :
      ({ mode := m, fireLive := b, fireLatch := s.control.fireLatch || b
         tableFault := s.control.tableFault || checkFailed, resetCause := cause } : Control) =
        { x with mode := m, fireLive := b, fireLatch := x.fireLatch || b } := by rw [← hx]
  unfold State.takeFireLevel
  cases level
  · rw [hlevel, Bool.or_false]
    rfl
  · rw [hlevel, Bool.or_true]
    rfl

theorem State.restart_start (s : State) (cause : ResetCause) (l : Lines) (checkFailed : Bool) :
    s.restart cause l checkFailed =
      (({ s with
        control := s.restarted cause l checkFailed
        log := (s.logged (.reset cause (s.restarted cause l checkFailed).mode (s.control.tableFault || checkFailed) ::
          if l.fire then [.fireOn] else [])).log } : State)).placeChannels l := by
  have hmode (t : State) (ht : t.params = s.params) (hfault : t.control.tableFault = (s.control.tableFault || checkFailed)) :
      t.restartMode = (s.restarted cause l checkFailed).mode := by
    have hgood : t.blockGood = s.blockGood := by
      unfold State.blockGood State.blockSum State.param
      rw [ht]
    unfold State.restartMode State.restarted
    rw [hgood, hfault]
    simp
  unfold State.restart
  dsimp only
  rw [hmode ((s.setControl { s.control with resetCause := cause }).noteCheck checkFailed) rfl rfl]
  exact congrArg (fun u : State => u.placeChannels l) (s.restart_levels cause l.fire checkFailed _)

/-- The restart rule: control, channels and log are written, and what each then holds (R161, R162, R118). -/
theorem State.restart_eq (s : State) (cause : ResetCause) (l : Lines) (checkFailed : Bool) :
    let t := s.restart cause l checkFailed
    t = { s with control := s.restarted cause l checkFailed, channels := t.channels, log := t.log } ∧
      t.log = (s.logged (.reset cause t.control.mode (s.control.tableFault || checkFailed) ::
        (if l.fire then [.fireOn] else []) ++ ((List.range 16).filter (t.placedForced l)).map Event.gateForced)).log ∧
      ∀ c, t.channel c = if c < 16 then t.placed l c else s.channel c := by
  intro t
  have ht : t = _ := s.restart_start cause l checkFailed
  generalize hu : ({ s with control := _, log := _ } : State) = u at ht
  obtain ⟨hframe, hchannel⟩ := u.placeChannels_upTo l 16
  change t = u.forEach 16 (fun c s => s.placeChannel c (freshChannel l c)) at ht
  rw [← ht] at hframe hchannel
  clear_value t
  have hcontrol : t.control = s.restarted cause l checkFailed := by rw [hframe, ← hu]
  have hclock : t.clock = u.clock := by rw [hframe]
  have hforced : t.placedForced l = u.placedForced l := by
    funext c
    unfold State.placedForced
    rw [State.unlockedCondition_of (b := u) (by rw [hframe]) hclock (by rw [hframe])]
  have htlog : t.log = (u.logged (((List.range 16).filter (u.placedForced l)).map Event.gateForced)).log := by rw [hframe]
  refine ⟨?_, ?_, fun c => ?_⟩
  · refine hframe.trans ?_
    rw [htlog, ← hu]
  · rw [hforced, hcontrol]
    have hulog : u.log = (s.logged (.reset cause (s.restarted cause l checkFailed).mode (s.control.tableFault || checkFailed) ::
        if l.fire then [.fireOn] else [])).log := by rw [← hu]
    have hlog := congrArg State.log (State.logged_after hulog (by rw [← hu])
      (((List.range 16).filter (u.placedForced l)).map Event.gateForced))
    exact htlog.trans hlog
  · rw [hchannel, State.placed_congr (u := t) (b := u) (by rw [hframe]) hclock (by rw [hframe]) (by rw [hframe])]
    have hsame : u.channel c = s.channel c := by
      rw [← hu]
      rfl
    rw [hsame]

/-! ### What the resets set and keep (R160 to R162) -/

section
variable {s t : State} {l : Lines} {args : List Byte}

/-- An event that reaches a held part (R160). -/
theorem exec_reaching (i : Instr) (s : State) (hevent : isEvent i = true) (hheld : reachesHeld i = true) :
    exec i s = .next (runEvent i s) := by
  rw [exec_event i s hevent, if_pos (by simp [hheld])]

theorem exec_coldReset (s : State) (l : Lines) (b : Bool) :
    exec (.coldReset l b) s = .next (s.coldStart.restart .cold l !b) := exec_reaching (.coldReset l b) s rfl rfl

theorem exec_retentionReset (h : s.power.retention = true) (l : Lines) (b : Bool) :
    exec (.retentionReset l b) s =
      .next ((s.warmStart { s.power with main := true, retention := true }).restart .retention l !b) := by
  refine (exec_reaching (.retentionReset l b) s rfl rfl).trans (congrArg Host.Outcome.next ?_)
  exact (s.powerReturns_eq l b).trans (if_pos h)

theorem exec_retentionReset_cold (h : s.power.retention = false) (l : Lines) (b : Bool) :
    exec (.retentionReset l b) s = exec (.coldReset l b) s := by
  rw [exec_coldReset]
  refine (exec_reaching (.retentionReset l b) s rfl rfl).trans (congrArg Host.Outcome.next ?_)
  exact (s.powerReturns_eq l b).trans (if_neg (by rw [h]; nofun))

theorem exec_pinReset (h : s.power.main = true) (l : Lines) :
    exec (.pinReset l) s = .next ((s.warmStart { s.power with rst := false }).restart .pin l false) := by
  refine (exec_reaching (.pinReset l) s rfl rfl).trans (congrArg Host.Outcome.next ?_)
  exact (s.pinReset_eq l).trans (if_pos h)

theorem exec_pinReset_unpowered (h : s.power.main = false) (l : Lines) :
    exec (.pinReset l) s = .next (s.setPower { s.power with rst := false }) := by
  refine (exec_reaching (.pinReset l) s rfl rfl).trans (congrArg Host.Outcome.next ?_)
  exact (s.pinReset_eq l).trans (if_neg (by rw [h]; nofun))

theorem exec_deviceReset (h : s.takes .office) :
    exec (.deviceReset (whole .office args l)) s =
      .next (s.taken ((s.warmStart s.power).restart .command l false) .office .ok (args.length + 1)) :=
  exec_officeWrite (args := args) (l := l) .deviceReset h rfl rfl (Nat.zero_le _)
    (e := (.ok, (s.warmStart s.power).restart .command l false)) rfl

end

/-- What every kind of reset sets (R62, R89, R136, R139, R148, R153, R157, R171), with its cause. -/
def State.isReset (t : State) (cause : ResetCause) (pending : List Instr) : Prop :=
  (∀ p, (t.port p).lastResult = .ok ∧ (t.port p).repeating = false ∧ (t.port p).assembly = none) ∧ t.cursor = none ∧
    (∀ n, t.station n = { state := .offline, verdict := none }) ∧ (∀ n, t.car n = { state := .idle, verdict := none }) ∧
    t.reservations = [] ∧
    t.strike = { reading := 0, duty := 255, nextDuty := none, lowMark := false, failMark := false,
                 sampleTimer := t.now + 10000 } ∧
    t.loader.active = false ∧ t.loader.buffer = [] ∧ t.window = none ∧ t.sweep = some (t.now + 100000) ∧
    t.control.resetCause = cause ∧ t.pending = pending

/-- A state whose work is dropped, restarted (R160, R162). -/
theorem State.restart_isReset {u : State} (hu : u.dropWork = u) (cause : ResetCause) (l : Lines) (f : Bool) :
    (u.restart cause l f).isReset cause u.pending := by
  obtain ⟨hframe, -, -⟩ := u.restart_eq cause l f
  generalize u.restart cause l f = t at *
  have hstations : t.stations = [] := by rw [hframe, ← hu]; rfl
  have hcars : t.cars = [] := by rw [hframe, ← hu]; rfl
  have hnow : t.now = 0 := by rw [hframe, ← hu]; rfl
  refine ⟨fun p => ?_, ?_, fun n => ?_, fun n => ?_, reservations_of_none_listed hstations hcars, ?_, ?_, ?_, ?_, ?_, ?_, ?_⟩
  · have hport : t.port p = .cold := by
      rw [hframe, ← hu]
      cases p <;> rfl
    rw [hport]
    exact ⟨rfl, rfl, rfl⟩
  · rw [hframe, ← hu]
    rfl
  · rw [State.station, hstations]
    rfl
  · rw [State.car, hcars]
    rfl
  · rw [hnow, hframe, ← hu]
    rfl
  · rw [hframe, ← hu]
    rfl
  · rw [hframe, ← hu]
    rfl
  · rw [hframe, ← hu]
    rfl
  · rw [hnow, hframe, ← hu]
    rfl
  · rw [hframe]
    rfl
  · rw [hframe]

theorem State.coldStart_dropWork (s : State) : s.coldStart.dropWork = s.coldStart := rfl
theorem State.warmStart_dropWork (s : State) (p : Power) : (s.warmStart p).dropWork = s.warmStart p := rfl

/-- The frame of DEVICE RESET ends on the reset port. -/
theorem State.isReset_taken {s t : State} {cause : ResetCause} {pending : List Instr} (h : t.isReset cause pending) (n : Nat) :
    (s.taken t .office .ok n).isReset cause pending := by
  obtain ⟨hports, hrest⟩ := h
  refine ⟨fun p => ?_, hrest⟩
  cases p
  case office => exact ⟨rfl, (hports .office).2.1, rfl⟩
  case lift => exact hports .lift
  case field => exact hports .field

/-- What a reset other than a COLD one keeps (R2, R6, R24, R40, R152). -/
def State.retains (s t : State) : Prop :=
  t.tenants = s.tenants ∧ t.units = s.units ∧ t.profiles = s.profiles ∧ t.roster = s.roster ∧ t.params = s.params ∧
    t.clock = s.clock ∧
    ({ t.loader with active := false, buffer := [] } : Loader) = { s.loader with active := false, buffer := [] }

theorem State.restart_retains (s : State) (p : Power) (cause : ResetCause) (l : Lines) (f : Bool) :
    s.retains ((s.warmStart p).restart cause l f) := by
  obtain ⟨hframe, -, -⟩ := (s.warmStart p).restart_eq cause l f
  generalize (s.warmStart p).restart cause l f = t at *
  rw [hframe]
  exact ⟨rfl, rfl, rfl, rfl, rfl, rfl, rfl⟩

/-- Settles O45: each kind of reset restarts a state whose work is dropped, and a COLD one a state whose tables are. -/
theorem resetsSetClearAndKeep : Obligations.ResetsSetClearAndKeep := by
  refine ⟨fun s l b args => ⟨⟨_, exec_coldReset s l b, ?_, ?_⟩, fun h => ⟨_, exec_retentionReset h l b, ?_, ?_⟩,
    fun h => exec_retentionReset_cold h l b, fun h => ⟨_, exec_pinReset h l, ?_, ?_⟩, fun h => ⟨_, exec_deviceReset h, ?_⟩⟩,
    fun s t l b args => ⟨fun h => ?_, fun h => ?_⟩⟩
  · exact State.restart_isReset s.coldStart_dropWork .cold l !b
  · rw [(s.coldStart.restart_eq .cold l !b).1]
    rfl
  · exact State.restart_isReset (s.warmStart_dropWork _) .retention l !b
  · rw [((s.warmStart _).restart_eq .retention l !b).1]
    rfl
  · exact State.restart_isReset (s.warmStart_dropWork _) .pin l false
  · rw [((s.warmStart _).restart_eq .pin l false).1]
    rfl
  · exact State.isReset_taken (State.restart_isReset (s.warmStart_dropWork _) .command l false) _
  · obtain rfl := Host.Outcome.next.inj ((exec_coldReset s l b).symm.trans h)
    obtain ⟨hframe, -, -⟩ := s.coldStart.restart_eq .cold l !b
    generalize s.coldStart.restart .cold l (!b) = t at *
    rw [hframe]
    exact ⟨fun _ => rfl, fun _ => rfl, fun _ => rfl, rfl, fun _ => rfl, rfl, rfl⟩
  · show s.retains t
    rcases h with ⟨h, hvalid⟩ | h | ⟨h, htakes⟩
    · obtain rfl := Host.Outcome.next.inj ((exec_retentionReset hvalid l b).symm.trans h)
      exact s.restart_retains _ _ _ _
    · cases hmain : s.power.main
      · obtain rfl := Host.Outcome.next.inj ((exec_pinReset_unpowered hmain l).symm.trans h)
        exact ⟨rfl, rfl, rfl, rfl, rfl, rfl, rfl⟩
      · obtain rfl := Host.Outcome.next.inj ((exec_pinReset hmain l).symm.trans h)
        exact s.restart_retains _ _ _ _
    · obtain rfl := Host.Outcome.next.inj ((exec_deviceReset htakes).symm.trans h)
      exact s.restart_retains _ _ _ _

/-- The restart rule, as the statement says it, of a state restarted with its log `before`. -/
theorem State.restart_rule (u : State) (cause : ResetCause) (l : Lines) (failed latch fault : Bool) (before : Log) (t : State)
    (ht : t = { u.restart cause l failed with office := t.office }) (hlatch : u.control.fireLatch = latch) (hfault : (u.control.tableFault || failed) = fault)
    (hbefore : u.log = before) :
    t.control =
        { mode := if fault = false ∧ t.blockGood = true then .normal else .fallback
          fireLive := l.fire, fireLatch := latch || l.fire, tableFault := fault, resetCause := cause } ∧
      t.log = (({ t with log := before }).logged (Event.reset cause t.control.mode fault ::
        (if l.fire then [Event.fireOn] else []) ++
        ((List.range 16).filter fun c => l.gate.getLsbD c && !t.unlockedCondition c).map fun c => Event.gateForced c)).log ∧
      ∀ c < 16, t.channel c =
        { state := if t.unlockedCondition c then .unlocked else if l.gate.getLsbD c then .forced else .secure
          gateOpen := l.gate.getLsbD c, egress := l.egress.getLsbD c, carried := none, releaseTimer := none
          heldOpenTimer := none
          drive := if t.unlockedCondition c then .pick else .off
          pickTimer := if t.unlockedCondition c then t.inTime t.pickTime 10000 else none } := by
  obtain ⟨hframe, hlog, hchannel⟩ := u.restart_eq cause l failed
  generalize u.restart cause l failed = v at *
  have hplaced : v.placed l = t.placed l := by
    rw [ht]
    rfl
  have hforced : v.placedForced l = t.placedForced l := by
    rw [ht]
    rfl
  have hgood : t.blockGood = u.blockGood := by
    unfold State.blockGood State.blockSum State.param
    rw [ht, hframe]
  have hcontrol : t.control = u.restarted cause l failed := by rw [ht, hframe]
  rw [hforced, show v.control = t.control by rw [ht]] at hlog
  rw [hplaced] at hchannel
  refine ⟨?_, ?_, fun c hc => ?_⟩
  · rw [hcontrol, hgood, State.restarted, hfault, hlatch]
  · rw [show t.log = v.log by rw [ht], hlog, hfault]
    exact State.logged_log u { t with log := before } _ hbefore (by rw [ht, hframe])
  · rw [show t.channel c = v.channel c by rw [ht]; rfl]
    exact (hchannel c).trans (if_pos hc)

/-- Settles O46: the four resets are restarts of four states. -/
theorem restartRule : Obligations.RestartRule := by
  refine fun s l b => ⟨fun t h => ?_, fun t hvalid h => ?_, fun t hmain h => ?_, fun t args htakes h => ?_⟩
  · exact State.restart_rule s.coldStart .cold l (!b) _ _ _ t
      (by rw [Host.Outcome.next.inj (h.symm.trans (exec_coldReset s l b))]) rfl rfl rfl
  · exact State.restart_rule (s.warmStart _) .retention l (!b) _ _ _ t
      (by rw [Host.Outcome.next.inj (h.symm.trans (exec_retentionReset hvalid l b))]) rfl rfl rfl
  · exact State.restart_rule (s.warmStart _) .pin l false _ _ _ t
      (by rw [Host.Outcome.next.inj (h.symm.trans (exec_pinReset hmain l))]) rfl (Bool.or_false _) rfl
  · obtain rfl := Host.Outcome.next.inj ((exec_deviceReset htakes).symm.trans h)
    exact State.restart_rule (s.warmStart s.power) .command l false _ _ _ _ rfl rfl (Bool.or_false _) rfl

end Sys2Proof.Machine
end

section
/-! The engine's decisions (R67 to R75, R80, R92 to R95) and the fetches of the verdicts they form (R66, R96). -/

namespace Sys2Proof.Machine

set_option Elab.async false -- one thread for the file, as in the tests: a thread for each theorem reaches the memory limit

/-! ### The service order (R67) -/

section
variable {s : State} {n : Nat}

theorem exec_unchanged (i : Instr) (h : isEvent i = true) (hsame : runEvent i s = s) : exec i s = .next s := by
  rw [exec_event i s h, hsame, ite_self]

theorem State.nextWork_none (h : s.noWork) : s.nextWork = none := by
  obtain ⟨hcars, hstations, hbuffer⟩ := h
  have h1 : (List.range Config.carCount).findSome? s.carWork = none :=
    findSome_range_none fun k hk => State.carWork_none (hcars k hk)
  have h2 : (List.range Config.stationCount).findSome? s.stationWork = none :=
    findSome_range_none fun k hk => State.stationWork_none (hstations k hk)
  simp [State.nextWork, h1, h2, State.recordWork, hbuffer]

theorem State.takeStation_other (type : StationType) (judge : State → Nat → Request → State)
    (h : ∀ n r, s.nextWork = some (.station n r) → r.config.type ≠ type) : s.takeStation type judge = s := by
  unfold State.takeStation
  split
  case h_1 n r hw => exact if_neg (h n r hw)
  case h_2 => rfl

theorem State.takeStation_taken {r : Request} {type : StationType} (judge : State → Nat → Request → State)
    (h : s.nextStation n r) (ht : r.config.type = type) : s.takeStation type judge = judge s n r := by
  unfold State.takeStation
  rw [State.nextWork_station h]
  exact if_pos ht

theorem State.takeCar_other (h : ∀ n r, s.nextWork ≠ some (.car n r)) : s.takeCar = s := by
  unfold State.takeCar
  split
  case h_1 n r hw => exact absurd hw (h n r)
  case h_2 => rfl

theorem State.takeCar_taken {r : CarRequest} (h : s.nextCar n r) : s.takeCar = s.decideCar n r := by
  unfold State.takeCar
  rw [State.nextWork_car h]

theorem State.takeRecord_other (key : Bool) (h : ∀ r rest, s.nextWork ≠ some (.record r rest)) : s.takeRecord key = s := by
  unfold State.takeRecord
  split
  case h_1 r rest hw => exact absurd hw (h r rest)
  case h_2 => rfl

/-- Settles O28: each row by the engine's next work. -/
theorem serviceOrder : Obligations.ServiceOrder := by
  intro s n
  have hcar (hw : ∀ n r, s.nextWork ≠ some (.car n r)) : exec .carDecision s = .next s :=
    exec_unchanged .carDecision rfl (State.takeCar_other hw)
  have hrecord (hw : ∀ r rest, s.nextWork ≠ some (.record r rest)) (key : Bool) : exec (.loaderExamine key) s = .next s :=
    exec_unchanged (.loaderExamine key) rfl (State.takeRecord_other key hw)
  have hentry (hw : ∀ n r, s.nextWork = some (.station n r) → r.config.type ≠ .entry) : exec .entryDecision s = .next s :=
    exec_unchanged .entryDecision rfl (State.takeStation_other .entry _ hw)
  have hexit (hw : ∀ n r, s.nextWork = some (.station n r) → r.config.type ≠ .exit) : exec .exitDecision s = .next s :=
    exec_unchanged .exitDecision rfl (State.takeStation_other .exit _ hw)
  have hzone (hw : ∀ n r, s.nextWork = some (.station n r) → r.config.type ≠ .zone) : exec .zoneDecision s = .next s :=
    exec_unchanged .zoneDecision rfl (State.takeStation_other .zone _ hw)
  refine ⟨fun r h => ?_, fun r h => ?_, fun r rest h => ?_, fun h => ?_⟩
  · have hw := State.nextWork_car h
    rw [hw] at hentry hexit hzone hrecord
    exact ⟨hentry nofun, hexit nofun, hzone nofun, hrecord nofun⟩
  · have hw := State.nextWork_station h
    have hsame {m : Nat} {q : Request} (hq : some (Work.station n r) = some (.station m q)) : q = r := by
      injection hq with hq
      injection hq with _ hq
      exact hq.symm
    rw [hw] at hcar hentry hexit hzone hrecord
    exact ⟨hcar nofun, hrecord nofun, fun ht => hentry fun m q hq => hsame hq ▸ ht, fun ht => hexit fun m q hq => hsame hq ▸ ht,
      fun ht => hzone fun m q hq => hsame hq ▸ ht⟩
  · have hw := State.nextWork_record h
    rw [hw] at hcar hentry hexit hzone
    exact ⟨hcar nofun, hentry nofun, hexit nofun, hzone nofun⟩
  · have hw := State.nextWork_none h
    rw [hw] at hcar hentry hexit hzone hrecord
    exact ⟨hcar nofun, hentry nofun, hexit nofun, hzone nofun, hrecord nofun⟩

end

/-! ### The verdict fetches (R66, R96) -/

section
variable {s : State} {args more : List Byte} {l : Lines}

/-- A set of floors as a sum of powers of two, bit by bit. -/
theorem sum_powers (test : Nat → Bool) (n : Nat) :
    ((List.range n).filter test).foldl (fun a f => a + 2 ^ f) 0 < 2 ^ n ∧
      ∀ f, (((List.range n).filter test).foldl (fun a f => a + 2 ^ f) 0).testBit f = (decide (f < n) && test f) := by
  induction n with
  | zero => simp
  | succ n ih =>
    obtain ⟨hlt, hbit⟩ := ih
    rw [List.range_succ, List.filter_append, List.foldl_append]
    cases hn : test n
    · simp only [List.filter_singleton, hn, cond_false, List.foldl_nil]
      refine ⟨by omega, fun f => ?_⟩
      rw [hbit f]
      rcases Nat.lt_trichotomy f n with h | rfl | h
      · simp [h, Nat.lt_succ_of_lt h]
      · simp [hn]
      · simp [show ¬ f < n by omega, show ¬ f < n + 1 by omega]
    · simp only [List.filter_singleton, hn, cond_true, List.foldl_cons, List.foldl_nil, Nat.add_comm _ (2 ^ n)]
      refine ⟨by omega, fun f => ?_⟩
      rcases Nat.lt_trichotomy f n with h | rfl | h
      · rw [Nat.testBit_two_pow_add_gt h, hbit f]
        simp [h, Nat.lt_succ_of_lt h]
      · rw [Nat.testBit_two_pow_add_eq, hbit f]
        simp [hn]
      · rw [Nat.testBit_lt_two_pow (Nat.lt_of_lt_of_le (by omega : _ < 2 ^ (n + 1)) (Nat.pow_le_pow_right (by decide) h))]
        simp [show ¬ f < n + 1 by omega]

/-- The floor bits of CAR FETCH (11.8). -/
theorem floorBits_bits (fs : List Nat) :
    floorBits fs < 65536 ∧ ∀ f, f < 16 → (floorBits fs).testBit f = decide (f ∈ fs) := by
  obtain ⟨hlt, hbit⟩ := sum_powers (fun f => fs.contains f) 16
  refine ⟨hlt, fun f hf => (hbit f).trans ?_⟩
  simp [hf]

theorem sampleOf_verdictFetch :
    sampleOf .verdictFetch args s =
      if 64 ≤ numberOf (byteAt args 0) then .refuse .badArgument
      else
        match (s.station (numberOf (byteAt args 0))).verdict with
        | none => .refuse .state
        | some v =>
          { result := .ok, data := verdictBytes v, fetch := some (numberOf (byteAt args 0)), records := [], discards := 0 } := rfl

theorem sampleOf_carFetch :
    sampleOf .carFetch args s =
      if 4 ≤ numberOf (byteAt args 0) then .refuse .badArgument
      else
        match (s.car (numberOf (byteAt args 0))).verdict with
        | none => .refuse .state
        | some v =>
          { result := .ok, data := carVerdictBytes v, fetch := some (numberOf (byteAt args 0)), records := [], discards := 0 } :=
  rfl

theorem State.clearVerdict_eq {n : Nat} {v : StationVerdict} (h : (s.station n).verdict = some v) :
    s.clearVerdict n = s.setStation n { s.station n with verdict := some { v with unfetched := false } } := by
  rw [State.clearVerdict, h]
  rfl

theorem State.clearCarVerdict_eq {n : Nat} {v : CarVerdict} (h : (s.car n).verdict = some v) :
    s.clearCarVerdict n = s.setCar n { s.car n with verdict := some { v with unfetched := false } } := by
  rw [State.clearCarVerdict, h]
  rfl

/-- A whole fetch frame that shifts out the record sampled, of which `t` is the end. -/
theorem exec_fetched {p : Port} {n : Nat} {data : List Byte} {t : State} (c : Command) (h : s.takes p) (hr : isRead c = true)
    (hp : permitted c p = true) (ha : 1 ≤ args.length) (hone : argumentBytes c s.loader args = 1)
    (hm : sampleOf c args s = { result := .ok, data := data, fetch := some n, records := [], discards := 0 })
    (hend : endRead c (args.length + 1) { result := .ok, data := data, fetch := some n, records := [], discards := 0 } s = t) :
    exec (frameInstr c (whole p args l)) s = .next (t.close p .ok (s.reply p data (args.length + 1))) := by
  rw [exec_read c h hr hp (hone.trans_le ha), hm]
  simp only [hone, if_true, hend]
  exact congrArg Host.Outcome.next (t.frameDone_zero p .ok _)

/-- The end of a fetch frame of several events, whose one argument byte draws no free byte. -/
theorem exec_fetch_closing {p : Port} {st : Byte} {m : Sample} {t : State} (c : Command) (h : s.takes p)
    (hr : isRead c = true) (hp : permitted c p = true) (ha : 1 ≤ args.length) (hone : argumentBytes c s.loader args = 1)
    (hm : (s.port p).assembly = some { wire := commandCode c :: args, status := st, sample := some m })
    (hend : (if m.result = .ok then endRead c (args.length + more.length + 1) m s else s) = t) :
    exec (frameInstr c { port := p, bytes := more, part := .closing, lines := l }) s =
      .next (t.close p m.result ((st :: byteOf (s.port p).lastResult.code ::
        (m.data ++ List.replicate (args.length + more.length + 1) 0xFF)).take (args.length + more.length + 1))) := by
  rw [exec_closing_sampled h hr hp (hone.trans_le ha) hm]
  simp only [hone, hend]
  exact congrArg Host.Outcome.next (t.frameDone_zero p _ _)

/-- A verdict formed meanwhile withdraws the clearing of the flag from the frame that sampled the older one, and from no other. -/
theorem PortState.withdrawFetch_cases (x : PortState) (n : Nat) :
    (∀ fr m, x.assembly = some fr → fr.sample = some m → m.fetch = some n →
      x.withdrawFetch n = { x with assembly := some { fr with sample := some { m with fetch := none } } }) ∧
    ((∀ fr m, x.assembly = some fr → fr.sample = some m → m.fetch ≠ some n) → x.withdrawFetch n = x) := by
  refine ⟨fun fr m hfr hm hn => ?_, fun hne => ?_⟩
  · simp only [PortState.withdrawFetch, hfr, Option.map_some, hm, hn, if_true]
  · have hframe : (x.assembly.map fun fr =>
        { fr with sample := fr.sample.map fun m => if m.fetch = some n then { m with fetch := none } else m }) = x.assembly := by
      cases hfr : x.assembly with
      | none => rfl
      | some fr =>
        have hsample : (fr.sample.map fun m => if m.fetch = some n then { m with fetch := none } else m) = fr.sample := by
          cases hm : fr.sample with
          | none => rfl
          | some m => exact congrArg some (if_neg (hne fr m hfr hm))
        rw [Option.map_some, hsample]
    rw [PortState.withdrawFetch, hframe]

end

/-- Settles O24: each fetch by what it samples, whole and at the end of a frame of several events. -/
theorem verdictAndCarFetch : Obligations.VerdictAndCarFetch := by
  refine ⟨?_, ?_, ?_, PortState.withdrawFetch_cases⟩
  · intro s l args h ha k n
    by_cases hn : 64 ≤ n
    · rw [if_pos hn]
      exact exec_read_refused .verdictFetch h rfl rfl ha (sampleOf_verdictFetch.trans (if_pos hn)) nofun
    have hm := sampleOf_verdictFetch (s := s) (args := args) |>.trans (if_neg hn)
    rw [if_neg hn]
    cases hv : (s.station n).verdict with
    | none =>
      rw [hv] at hm
      exact exec_read_refused .verdictFetch h rfl rfl ha hm nofun
    | some v =>
      rw [hv] at hm
      refine (exec_fetched .verdictFetch h rfl rfl ha rfl hm (State.clearVerdict_eq hv)).trans ?_
      cases hv : v.outcome <;> simp only [verdictBytes, hv] <;> rfl
  · intro s l args h ha k n
    have hm := sampleOf_carFetch (s := s) (args := args)
    refine ⟨fun hn => ?_, fun hn hv => ?_, fun v hn hv => ?_⟩
    · exact exec_read_refused .carFetch h rfl rfl ha (hm.trans (if_pos hn)) nofun
    · have hm := hm.trans (if_neg (Nat.not_le.2 hn))
      rw [hv] at hm
      exact exec_read_refused .carFetch h rfl rfl ha hm nofun
    · have hm := hm.trans (if_neg (Nat.not_le.2 hn))
      rw [hv] at hm
      obtain ⟨hlt, hbit⟩ := floorBits_bits v.reachable
      refine ⟨BitVec.ofNat 16 (floorBits v.reachable), fun f hf => ?_, ?_⟩
      · rw [← BitVec.getLsbD_eq_getElem, BitVec.getLsbD_ofNat, hbit f hf]
        simp [hf]
      · rw [BitVec.toNat_ofNat, Nat.mod_eq_of_lt hlt]
        refine (exec_fetched .carFetch h rfl rfl ha rfl hm (State.clearCarVerdict_eq hv)).trans ?_
        cases hv : v.outcome <;> simp only [carVerdictBytes, hv] <;> rfl
  · intro s l args more st m ha k n out
    refine ⟨⟨?_, fun h hm => ⟨fun hnone => ?_, fun j v hok hj hv => ?_⟩⟩, ⟨?_, fun h hm => ⟨fun hnone => ?_, fun j v hok hj hv => ?_⟩⟩⟩
    · rw [sampleOf_verdictFetch]
      by_cases hn : 64 ≤ n
      · rw [if_pos hn, if_neg (by omega)]
        rfl
      · rw [if_neg hn]
        cases hv : (s.station n).verdict <;> simp [Nat.not_le.1 hn, Sample.refuse, n]
    · refine exec_fetch_closing .verdictFetch h rfl rfl ha rfl hm ?_
      split
      case isTrue hok => rw [endRead, hnone.resolve_left (fun hne => hne hok)]
      case isFalse => rfl
    · refine (exec_fetch_closing .verdictFetch h rfl rfl ha rfl hm
        (t := s.setStation j { s.station j with verdict := some { v with unfetched := false } }) ?_).trans (by rw [hok]; rfl)
      rw [if_pos hok, endRead, hj]
      exact State.clearVerdict_eq hv
    · rw [sampleOf_carFetch]
      by_cases hn : 4 ≤ n
      · rw [if_pos hn, if_neg (by omega)]
        rfl
      · rw [if_neg hn]
        cases hv : (s.car n).verdict <;> simp [Nat.not_le.1 hn, Sample.refuse, n]
    · refine exec_fetch_closing .carFetch h rfl rfl ha rfl hm ?_
      split
      case isTrue hok => rw [endRead, hnone.resolve_left (fun hne => hne hok)]
      case isFalse => rfl
    · refine (exec_fetch_closing .carFetch h rfl rfl ha rfl hm
        (t := s.setCar j { s.car j with verdict := some { v with unfetched := false } }) ?_).trans (by rw [hok]; rfl)
      rw [if_pos hok, endRead, hj]
      exact State.clearCarVerdict_eq hv

/-! ### Reservations counted (R45, R46) -/

section
variable (s : State)

/-- A count of reservations is a count of the passages and trips that hold them. -/
theorem State.reservations_countP (test : Reservation → Bool) :
    s.reservations.countP test =
      (List.range 64).countP (fun n =>
        match (s.station n).state with
        | .passage p => p.reservation.any test
        | _ => false) +
      (List.range 4).countP (fun n =>
        match (s.car n).state with
        | .trip tr => tr.reservation.any test
        | _ => false) := by
  have hany (o : Option Reservation) : (o.map test).getD false = o.any test := by cases o <;> rfl
  rw [State.reservations, List.countP_append, List.countP_filterMap, List.countP_filterMap]
  refine congrArg₂ (· + ·) (congrArg (List.countP · _) (funext fun n => ?_)) (congrArg (List.countP · _) (funext fun n => ?_))
  · rw [hany, StationSlot.reservation]
    cases (s.station n).state <;> rfl
  · rw [hany, CarSlot.reservation]
    cases (s.car n).state <;> rfl

/-! ### The stages (R69, R71, R72, R92, R93) -/

theorem State.claimAllowed_iff (f : Nat) :
    s.claimAllowed f = true ↔ s.floorLimit f = 0 ∨ s.occupancy f + 1 ≤ s.floorLimit f := by
  simp [State.claimAllowed]

theorem State.placeAvailable_iff : s.placeAvailable = true ↔ s.roster.length + s.placesHeld < 256 := by
  simp [State.placeAvailable, Config.rosterCapacity]

theorem State.gateLocked_iff (r : Request) : s.gateLocked r = true ↔ ∃ c ∈ r.config.channel, s.channelMode c = .locked := by
  rw [State.gateLocked]
  cases r.config.channel <;> simp

theorem State.profileAdmits_eq (i : Nat) : s.profileAdmits i = (s.profile (s.tenant i).profile).admits s.clock.minute := rfl

theorem State.entryStages_eq (r : Request) (t : Option Nat) : firstHolding (s.entryStages r t) = s.entryDenial r t := by
  unfold State.entryStages State.entryDenial State.found
  simp only [firstHolding_cons, firstHolding_nil, beq_iff_eq]
  cases t with
  | none => rfl
  | some i =>
    simp only [Option.isNone_some, Bool.false_eq_true, if_false, Option.getD_some, Bool.and_eq_true, beq_iff_eq, bne_iff_ne,
      Bool.not_eq_true', List.isEmpty_iff, State.gateLocked_iff, ← State.claimAllowed_iff, ← State.placeAvailable_iff,
      Bool.not_eq_true, and_assoc, State.profileAdmits_eq]

theorem State.exitStages_eq (r : Request) (t : Option Nat) : firstHolding (s.exitStages r t) = s.exitDenial r t := by
  unfold State.exitStages State.exitDenial
  simp only [Bool.or_eq_true, beq_iff_eq]
  split
  · rfl
  · simp only [firstHolding_cons, firstHolding_nil, State.gateLocked_iff, Option.isNone_iff_eq_none]

theorem State.zoneStages_eq (r : Request) (t : Option Nat) : firstHolding (s.zoneStages r t) = s.zoneDenial r t := by
  unfold State.zoneStages State.zoneDenial State.found
  simp only [firstHolding_cons, firstHolding_nil, beq_iff_eq]
  cases t with
  | none => rfl
  | some i =>
    simp only [Option.isNone_some, Bool.false_eq_true, if_false, Option.getD_some, Bool.and_eq_true, beq_iff_eq, bne_iff_ne,
      Bool.not_eq_true', State.gateLocked_iff, ← State.claimAllowed_iff, Bool.not_eq_true, State.profileAdmits_eq]

/-- The stages of a car request, whose grant without a reservation is FALLBACK's (R92). -/
theorem State.carStages_eq (r : CarRequest) (t : Option Nat) :
    firstHolding (s.carStages r t) =
      match s.carDenial r t with
      | some reason => some (.deny reason)
      | none => if s.control.mode = .fallback then some .grant else none := by
  unfold State.carStages State.carDenial State.found
  simp only [firstHolding_cons, firstHolding_nil, beq_iff_eq, Bool.and_eq_true]
  by_cases hfire : s.control.fireLatch
  · simp [hfire]
  by_cases hmode : s.control.mode = .fallback
  · by_cases hb : r.floor = 0 <;> simp [hfire, hmode, hb]
  simp only [hfire, hmode, false_and, Bool.false_eq_true, if_false]
  cases t with
  | none => rfl
  | some i =>
    simp only [Option.isNone_some, Bool.false_eq_true, if_false, Option.getD_some, bne_iff_ne,
      Bool.not_eq_true', ← State.claimAllowed_iff, Bool.not_eq_true, State.profileAdmits_eq]
    split_ifs <;> rfl

theorem State.mem_reachableFloors (t : Option Nat) (f : Nat) : f ∈ s.reachableFloors t ↔ s.reachable t f := by
  unfold State.reachableFloors State.reachable
  split
  · simp
  split
  · simp
  cases t with
  | none => simp
  | some i =>
    dsimp only
    by_cases hout : (s.tenant i).state = .suspended ∨ ¬ s.isPresent i = true
    · rw [if_pos hout]
      rcases hout with h | h <;> simp [h]
    · rw [if_neg hout]
      obtain ⟨hs, hp⟩ := not_or.1 hout
      simp only [List.mem_filter, List.mem_range, State.floorReachable, Bool.and_eq_true, Bool.or_eq_true, bne_iff_ne,
        beq_iff_eq, State.claimAllowed_iff, State.profileAdmits_eq, hs, not_not.1 hp, ne_eq, not_false_eq_true, true_and,
        Config.floors, and_assoc]

end

/-! ### The verdicts (R73 to R75, R80, R94, R95) -/

section
variable (s : State)

/-- A denial (R73). -/
theorem State.denyStation_denies (n : Nat) (who : Option Nat) (reason : DenyReason) :
    s.denies (s.denyStation n who reason) n who reason := by
  refine ⟨?_, fun m hm => ?_, rfl⟩
  · refine ((State.setStation_station_same ..)).trans ?_
    rw [show (((s.writeVerdict n (.deny reason) who).append (.denied reason (.station n) who)).station n) = _ from
      State.setStation_station_same ..]
  · exact ((State.setStation_station ..).trans (if_neg hm)).trans ((State.setStation_station ..).trans (if_neg hm))

theorem State.released_carried (c n tenths : Nat) :
    (s.setChannel c { s.channel c with carried := some n }).released c tenths =
      { s.released c tenths with carried := some n } := by
  have hdriven (x : Channel) : (s.setChannel c { s.channel c with carried := some n }).driven x = s.driven x := rfl
  have htime (k unit : Nat) : (s.setChannel c { s.channel c with carried := some n }).inTime k unit = s.inTime k unit := rfl
  have hheld : (s.setChannel c { s.channel c with carried := some n }).heldOpenTime = s.heldOpenTime := rfl
  unfold State.released
  rw [State.setChannel_channel_same]
  simp only [hdriven, htime, hheld]
  generalize s.channel c = x
  obtain ⟨state, _, _, _, _, _, _, _⟩ := x
  cases state
  case secure | passing | propped | forced =>
    unfold State.driven
    dsimp only
    split <;> rfl
  all_goals rfl

/-- Channel `c` carries a new passage; the one it carried has a window of its own from now on (R80). -/
theorem State.attach_eq (c n : Nat) :
    s.attach c n = ({ s with stations := (s.handWindow c).stations } : State).setChannel c
      { s.channel c with carried := some n } := by
  have htake : s.takeOver c = { s with stations := (s.handWindow c).stations } := (s.handWindow_eq c).1
  rw [State.attach, htake]
  rfl

theorem State.releaseGoverned_iff (c : Nat) :
    s.releaseGoverned c = true ↔ s.channelMode c ≠ .locked ∧ (s.channel c).state ≠ .unlocked := by
  simp [State.releaseGoverned]

/-- The channel of a grant's gate, and what the grant appends there (R75). -/
def State.grantedChannel (s : State) (c n tenths : Nat) : Channel :=
  { (if s.channelMode c ≠ .locked ∧ (s.channel c).state ≠ .unlocked then s.released c tenths else s.channel c) with
    carried := some n }

def State.grantedEvents (s : State) (channel : Option Nat) : List Event :=
  match channel with
  | some c => if s.channelMode c ≠ .locked then releaseEvents (s.channel c) c else []
  | none => []

/-- A grant's part at the gate (R75, R80). -/
theorem State.grantGate_some (c n tenths : Nat) :
    s.grantGate n (some c) tenths =
      (({ s with stations := (s.handWindow c).stations } : State).setChannel c (s.grantedChannel c n tenths)).logged
        (s.grantedEvents (some c)) := by
  have hgate : s.grantGate n (some c) tenths =
      if s.releaseGoverned c then (s.attach c n).release c tenths else s.attach c n := rfl
  rw [hgate, State.attach_eq]
  by_cases hg : s.channelMode c ≠ .locked ∧ (s.channel c).state ≠ .unlocked
  · have hreleased : (({ s with stations := (s.handWindow c).stations } : State).setChannel c
        { s.channel c with carried := some n }).released c tenths = { s.released c tenths with carried := some n } :=
      State.released_carried { s with stations := (s.handWindow c).stations } c n tenths
    rw [if_pos ((s.releaseGoverned_iff c).2 hg), State.release_eq, hreleased, State.setChannel_setChannel,
      State.setChannel_channel_same, State.grantedChannel, if_pos hg, State.grantedEvents, if_pos hg.1]
    · rfl
    · rw [State.setChannel_channel_same]
      exact hg.2
  · have hnone : s.grantedEvents (some c) = [] := by
      show (if s.channelMode c ≠ .locked then releaseEvents (s.channel c) c else []) = []
      split
      case isTrue hm =>
        have hu : (s.channel c).state = .unlocked := not_not.1 fun hu => hg ⟨hm, hu⟩
        rw [releaseEvents, hu]
        rfl
      case isFalse => rfl
    rw [if_neg (mt (s.releaseGoverned_iff c).1 hg), State.grantedChannel, if_neg hg, hnone]
    rfl

theorem State.grantGate_frame (n : Nat) (channel : Option Nat) (tenths : Nat) :
    s.grantGate n channel tenths = { s.logged (s.grantedEvents channel) with
      stations := (s.grantGate n channel tenths).stations, channels := (s.grantGate n channel tenths).channels } := by
  cases channel with
  | none => rfl
  | some c =>
    have hlog := State.logged_log (({ s with stations := (s.handWindow c).stations } : State).setChannel c
      (s.grantedChannel c n tenths)) s (s.grantedEvents (some c)) rfl rfl
    rw [State.grantGate_some, State.logged_frame _ s, State.logged_frame _ (State.setChannel _ _ _), hlog]
    rfl

theorem State.grantGate_channel (n : Nat) (channel : Option Nat) (tenths c : Nat) :
    (s.grantGate n channel tenths).channel c = if channel = some c then s.grantedChannel c n tenths else s.channel c := by
  cases channel with
  | none => rfl
  | some d =>
    rw [State.grantGate_some, State.logged_channel, State.setChannel_channel]
    by_cases h : c = d
    · rw [if_pos h, if_pos (congrArg some h.symm), h]
    · rw [if_neg h, if_neg fun hd => h (Option.some.inj hd).symm]
      rfl

theorem State.grantGate_station (n : Nat) (channel : Option Nat) (tenths m : Nat) :
    (s.grantGate n channel tenths).station m =
      if ∃ c ∈ channel, (s.channel c).carried = some m then (s.station m).toWindow s else s.station m := by
  cases channel with
  | none => exact (if_neg (by simp)).symm
  | some c =>
    rw [State.grantGate_some, State.logged_station, State.setChannel_station]
    refine ((s.handWindow_eq c).2 m).trans (if_congr (by simp) rfl rfl)

/-- A slot of another station after a grant (R80). -/
theorem StationSlot.toWindow_cases (x : StationSlot) (reached : Prop) [Decidable reached] :
    (if reached then x.toWindow s else x) =
      match x.state with
      | .passage p =>
        if reached ∧ p.governor = .release then
          { x with state := .passage { p with governor := .window (s.now + s.passageWindow * 1000000) } }
        else x
      | _ => x := by
  unfold StationSlot.toWindow
  by_cases h : reached
  · simp only [h, if_true, true_and]
    rfl
  · cases x.state <;> simp only [h, if_false, false_and]

theorem State.releaseTime_eq (who : Option Nat) :
    s.releaseTime who = match who with
      | none => s.baseRelease
      | some i => if (s.tenant i).extended then min 250 (s.baseRelease * s.extendedFactor) else s.baseRelease := by
  cases who <;> rfl

/-- A grant (R74, R75, R80). -/
theorem State.grantStation_grants (n : Nat) (r : Request) (kind : PassageKind) (who : Option Nat) (res : Option Reservation)
    (passback : Bool) {pb : Prop} [Decidable pb] (hpb : passback = true ↔ pb) {dest : Option Nat}
    (hdest : (s.capturePassage r kind who res).destination = dest) :
    s.grants (s.grantStation n r kind who res passback) n r kind dest who res pb := by
  generalize hg : s.grantGate n r.config.channel (s.releaseTime who) = g
  have hframe := s.grantGate_frame n r.config.channel (s.releaseTime who)
  have hstation := s.grantGate_station n r.config.channel (s.releaseTime who)
  have hchannel := s.grantGate_channel n r.config.channel (s.releaseTime who)
  rw [hg] at hframe hstation hchannel
  have ht : s.grantStation n r kind who res passback =
      ((g.writeVerdict n (.grant (s.releaseTime who)) who).logged (if pb then [.passback kind n who] else [])).setSlot n
        (.passage (s.capturePassage r kind who res)) := by
    unfold State.grantStation
    dsimp only
    rw [hg]
    by_cases h : pb
    · rw [if_pos h, if_pos (hpb.2 h)]
      rfl
    · rw [if_neg h, if_neg (mt hpb.1 h)]
      rfl
  have hgovernor : (s.capturePassage r kind who res).governor =
      if ∃ c ∈ r.config.channel, s.channelMode c ≠ .locked ∧ (s.channel c).state ≠ .unlocked then .release
      else .window (s.now + s.passageWindow * 1000000) := by
    refine if_congr ?_ rfl rfl
    simp [Option.any_eq_true, State.releaseGoverned_iff]
  have hopened : (s.capturePassage r kind who res).opened =
      decide (∃ c ∈ r.config.channel, (s.channel c).gateOpen = true) := by
    show (r.config.channel.any fun c => (s.channel c).gateOpen) = _
    cases r.config.channel <;> simp
  rw [ht]
  refine ⟨?_, fun m hm => ?_, fun c => ?_, ?_⟩
  · refine (State.setStation_station_same ..).trans ?_
    rw [State.logged_station, show (g.writeVerdict n (.grant (s.releaseTime who)) who).station n = _ from
      State.setStation_station_same .., ← hgovernor, ← hopened, ← hdest, State.releaseTime_eq]
    rfl
  · refine ((State.setStation_station ..).trans (if_neg hm)).trans ?_
    rw [State.logged_station]
    refine ((State.setStation_station ..).trans (if_neg hm)).trans ((hstation m).trans ?_)
    exact StationSlot.toWindow_cases s _ _
  · refine (State.logged_channel _ _ _).trans ((hchannel c).trans ?_)
    rw [State.releaseTime_eq]
    rfl
  · suffices hgranted : ∀ t, t = ((g.writeVerdict n (.grant (s.releaseTime who)) who).logged
        (if pb then [.passback kind n who] else [])).setSlot n (.passage (s.capturePassage r kind who res)) →
        t = { s.logged (s.grantedEvents r.config.channel ++ if pb then [.passback kind n who] else []) with
          stations := t.stations, channels := t.channels, field := s.field.withdrawFetch n } from hgranted _ rfl
    rintro t rfl
    rw [State.logged_frame _ s, State.logged_frame _ (g.writeVerdict _ _ _)]
    have hlog : ((g.writeVerdict n (.grant (s.releaseTime who)) who).logged (if pb then [.passback kind n who] else [])).log =
        (s.logged (s.grantedEvents r.config.channel ++ if pb then [.passback kind n who] else [])).log := by
      rw [State.logged_after (s := s) (fs := s.grantedEvents r.config.channel)]
      · show g.log = _
        rw [hframe]
      · show g.clock.minute = _
        rw [hframe, State.logged_frame]
    rw [hlog]
    rw [State.logged_frame _ s] at hframe
    exact congrArg (fun v : State => { v with
      stations := ((g.writeVerdict n (.grant (s.releaseTime who)) who).setSlot n
        (.passage (s.capturePassage r kind who res))).stations
      field := v.field.withdrawFetch n
      log := (s.logged (s.grantedEvents r.config.channel ++ if pb then [Event.passback kind n who] else [])).log }) hframe
end

/-! ### The decisions -/

section
variable {s : State}

theorem State.entryDenial_unknown (r : Request) : s.entryDenial r none ≠ none := by
  unfold State.entryDenial
  dsimp only
  split_ifs <;> exact Option.some_ne_none _

theorem State.zoneDenial_unknown (r : Request) : s.zoneDenial r none ≠ none := by
  unfold State.zoneDenial
  dsimp only
  split_ifs <;> exact Option.some_ne_none _

/-- Settles O25: the count of reservations, and the decision by its stages. -/
theorem entryDecision : Obligations.EntryDecision := by
  refine ⟨fun s f => ⟨s.reservations_countP _, ?_⟩, fun s n r who hrun hnext htype hlaw hwho => ?_⟩
  · have hclaims := s.reservations_countP fun x => x.claim == some f
    simp only [beq_eq_decide] at hclaims
    simp only [State.occupancy, State.claimsOn, beq_eq_decide, hclaims] <;> rfl
  refine ⟨_, exec_running .entryDecision rfl hrun, ?_⟩
  rw [show runEvent .entryDecision s = s.decideEntry n r from State.takeStation_taken _ hnext htype]
  unfold State.decideEntry
  dsimp only
  rw [State.tenantOf_eq hlaw hwho, State.entryStages_eq]
  cases hd : s.entryDenial r who with
  | some reason => exact s.denyStation_denies n who reason
  | none =>
    cases who with
    | none => exact absurd hd (State.entryDenial_unknown r)
    | some i => exact ⟨i, rfl, s.grantStation_grants n r .entry (some i) _ _ (by simp [State.found, and_assoc]) rfl⟩

/-- Settles O26: the decision by its stages. -/
theorem exitDecision : Obligations.ExitDecision := by
  intro s n r who hrun hnext htype hlaw hwho
  refine ⟨_, exec_running .exitDecision rfl hrun, ?_⟩
  rw [show runEvent .exitDecision s = s.decideExit n r from State.takeStation_taken _ hnext htype]
  unfold State.decideExit
  dsimp only
  rw [State.tenantOf_eq hlaw hwho, State.exitStages_eq]
  cases hd : s.exitDenial r who with
  | some reason => exact s.denyStation_denies n who reason
  | none =>
    refine s.grantStation_grants n r .exit who none _ ?_ rfl
    cases who with
    | some i => simp [and_assoc]
    | none =>
      have hoff : s.control.fireLatch = true ∨ s.control.mode = .fallback := by
        by_contra hon
        rw [State.exitDenial, if_neg hon] at hd
        cases hd
      rcases hoff with h | h <;> simp [h]

/-- The floor set of a tenant slot (R5). -/
theorem State.inFloorSet_iff (s : State) (i f : Nat) : s.inFloorSet i f = true ↔
    f < 16 ∧ ((s.tenant i).role = .staff ∨ f = 0 ∨ ∃ u ∈ (s.tenant i).units, (s.unit u).floor = f) := by
  simp [State.inFloorSet, Config.floors, or_assoc]

/-- Settles O27: the floor set, and the decision by its stages. -/
theorem zoneDecision : Obligations.ZoneDecision := by
  refine ⟨State.inFloorSet_iff, fun s n r who hrun hnext htype hlaw hwho => ?_⟩
  refine ⟨_, exec_running .zoneDecision rfl hrun, ?_⟩
  rw [show runEvent .zoneDecision s = s.decideZone n r from State.takeStation_taken _ hnext htype]
  unfold State.decideZone
  dsimp only
  rw [State.tenantOf_eq hlaw hwho, State.zoneStages_eq]
  cases hd : s.zoneDenial r who with
  | some reason => exact s.denyStation_denies n who reason
  | none =>
    cases who with
    | none => exact absurd hd (State.zoneDenial_unknown r)
    | some i => exact ⟨i, rfl, s.grantStation_grants n r .zone (some i) _ _ (by simp) rfl⟩

theorem State.denyCar_car (n m : Nat) (r : CarRequest) (who : Option Nat) (reason : DenyReason) :
    (s.denyCar n r who reason).car m =
      if m = n then
        { state := .idle
          verdict := some
            { outcome := .deny reason, tenant := who, destination := r.floor, reachable := s.reachableFloors who,
              unfetched := true } }
      else s.car m := by
  refine (State.setCar_car ..).trans ?_
  split
  · exact congrArg (fun x : CarSlot => { x with state := .idle }) (State.setCar_car_same ..)
  · exact (State.setCar_car ..).trans (if_neg ‹_›)

theorem State.grantCar_car (n m : Nat) (r : CarRequest) (who : Option Nat) (res : Option Reservation) :
    (s.grantCar n r who res).car m =
      if m = n then
        { state := .trip
            { holder := who.map fun i => { slot := i, enrolment := (s.tenant i).enrolment }
              destination := r.floor, reservation := res
              deadline := s.now + s.tripWindow * 1000000 }
          verdict := some
            { outcome := .grant, tenant := who, destination := r.floor, reachable := s.reachableFloors who,
              unfetched := true } }
      else s.car m := by
  refine (State.setCar_car ..).trans ?_
  split
  · rw [show (s.writeCarVerdict n _).car n = _ from State.setCar_car_same ..]
    rfl
  · exact (State.setCar_car ..).trans (if_neg ‹_›)

theorem State.decideCar_eq (n : Nat) (r : CarRequest) {who : Option Nat} (h : s.tenantOf r.credential = who) :
    s.decideCar n r =
      match s.carDenial r who with
      | some reason => s.denyCar n r who reason
      | none => s.grantCar n r who
          (if s.control.mode = .fallback then none else who.map fun i => s.floorReservation i r.floor) := by
  unfold State.decideCar
  dsimp only
  rw [h, State.carStages_eq]
  cases s.carDenial r who with
  | some reason => rfl
  | none =>
    dsimp only
    split_ifs <;> rfl

/-- Settles O30: the decision by its stages, with the floors reachable. -/
theorem carDecision : Obligations.CarDecision := by
  intro s n r who hrun hnext hlaw hwho
  refine ⟨_, s.reachableFloors who, exec_running .carDecision rfl hrun, s.mem_reachableFloors who, ?_⟩
  rw [show runEvent .carDecision s = s.decideCar n r from State.takeCar_taken hnext,
    State.decideCar_eq n r (State.tenantOf_eq hlaw hwho)]
  cases s.carDenial r who with
  | some reason =>
    exact ⟨fun m hm => (State.denyCar_car ..).trans (if_neg hm), (State.denyCar_car ..).trans (if_pos rfl), rfl⟩
  | none =>
    exact ⟨fun m hm => (State.grantCar_car ..).trans (if_neg hm), (State.grantCar_car ..).trans (if_pos rfl), rfl⟩

end

end Sys2Proof.Machine
end

section
/-! The site clock (R25 to R32): the minute tick and SET CLOCK by the phase table, with the close and open events of
`Sys2Proof/Laws/Clock.lean`. -/

namespace Sys2Proof.Machine

set_option Elab.async false -- one thread for the file, as in the tests: a thread for each theorem reaches the memory limit

/-! ### The phase table (2.3) -/

section
variable {a : State} {g : Nat}

theorem State.evaluatePhase_open_inside (tick : Bool) (hp : a.clock.phase = .opened)
    (ho : a.siteOpenAt a.clock.minute = true) : a.evaluatePhase tick = a := by
  rw [State.evaluatePhase, hp, ho]

theorem State.evaluatePhase_open_outside (tick : Bool) (hp : a.clock.phase = .opened)
    (ho : a.siteOpenAt a.clock.minute = false) : a.evaluatePhase tick = a.closeEvent := by
  rw [State.evaluatePhase, hp, ho]

theorem State.evaluatePhase_shut_inside (tick : Bool) (hp : a.clock.phase ≠ .opened)
    (ho : a.siteOpenAt a.clock.minute = true) : a.evaluatePhase tick = a.openEvent := by
  rw [State.evaluatePhase, ho]
  cases h : a.clock.phase with
  | opened => exact absurd h hp
  | closing | closed => rfl

theorem State.evaluatePhase_closing_outside (tick : Bool) (hp : a.clock.phase = .closing g)
    (ho : a.siteOpenAt a.clock.minute = false) : a.evaluatePhase tick = if tick then a.closingTick g else a := by
  rw [State.evaluatePhase, hp, ho]

theorem State.evaluatePhase_closed_outside (tick : Bool) (hp : a.clock.phase = .closed)
    (ho : a.siteOpenAt a.clock.minute = false) : a.evaluatePhase tick = a := by
  rw [State.evaluatePhase, hp, ho]

end

/-! ### The ticks (R25, R28 to R31) -/

section
variable {s : State}

/-- The clock a minute later. -/
def Clock.ticked (k : Clock) : Clock := { k with minute := if k.minute = 10079 then 0 else k.minute + 1, seconds := 0 }

theorem State.minuteTick_eq (hm : s.clock.minute < 10080) (hc : s.counting = true) :
    s.minuteTick =
      if s.power.main then ({ s with clock := s.clock.ticked } : State).evaluatePhase true else { s with clock := s.clock.ticked } := by
  have hnext : nextMinute s.clock.minute = if s.clock.minute = 10079 then 0 else s.clock.minute + 1 := by
    simp only [nextMinute, Config.weekMinutes]
    split_ifs <;> omega
  rw [State.minuteTick, if_pos hc, hnext]
  rfl

theorem State.secondTick_eq (hc : s.counting = true) :
    s.secondTick =
      if s.clock.seconds < 59 then { s with clock := { s.clock with seconds := s.clock.seconds + 1 } } else s.minuteTick := by
  rw [State.secondTick, if_pos hc]
  rfl

/-- A closing tick (R30, R54). -/
theorem State.closingTick_eq (s : State) (k : Clock) (g : Nat) :
    ({ s with clock := k } : State).closingTick g =
      { s with
        clock := { k with phase := if g ≤ 1 then .closed else .closing (g - 1) }
        roster := s.roster.map (fun p =>
          match p.countdown with
          | none => p
          | some k => if k ≤ 1 then { p with state := .overstay, countdown := none } else { p with countdown := some (k - 1) })
        log := (({ s with clock := k } : State).logged
          ((s.roster.filter fun p => p.countdown.any fun k => k ≤ 1).map fun p => .overstay p.slot p.floor)).log } := by
  have hlog := State.logged_log (({ s with clock := k } : State).setPhase (if g ≤ 1 then .closed else .closing (g - 1)))
    ({ s with clock := k } : State) ((s.roster.filter fun p => p.countdown.any fun k => k ≤ 1).map fun p => .overstay p.slot p.floor)
    rfl rfl
  rw [State.closingTick, State.rosterTick_eq, ← hlog]
  rfl

/-- The site is open at the clock's minute, for a state with another clock (R27). -/
theorem State.siteOpenAt_ticked (s : State) (k : Clock) (g : Log) {isOpen : Prop}
    (h : isOpen ↔ s.openMinute (k.minute / 1440) ≤ k.minute % 1440 ∧ k.minute % 1440 < s.closeMinute (k.minute / 1440)) :
    (isOpen → ({ s with clock := k, log := g } : State).siteOpenAt k.minute = true) ∧
      (¬ isOpen → ({ s with clock := k, log := g } : State).siteOpenAt k.minute = false) := by
  have hiff := (State.siteOpenAt_iff s ({ s with clock := k, log := g } : State) rfl k.minute).trans h.symm
  exact ⟨hiff.2, fun ho => Bool.eq_false_iff.2 (mt hiff.1 ho)⟩

/-- Settles O15: the second by the clock, the minute by the phase table. -/
theorem secondAndMinuteTicks : Obligations.SecondAndMinuteTicks := by
  intro s hminute m isOpen ticked
  have hsecond : exec .secondTick s = .next s.secondTick := exec_reaching .secondTick s rfl rfl
  have hexec : exec .minuteTick s = .next s.minuteTick := exec_reaching .minuteTick s rfl rfl
  refine ⟨fun hpower => ?_, fun hmain hretention => ?_, fun hmain hretention => ?_, fun hmain => ?_⟩
  · have hc : s.counting = true := by simpa [State.counting] using hpower
    rw [hsecond, hexec, State.secondTick_eq hc]
    refine ⟨fun h => ?_, fun h => ?_⟩
    · rw [if_pos h]
    · rw [if_neg (by omega)]
  · have hc : s.counting = true := by simp [State.counting, hretention]
    rw [hexec, State.minuteTick_eq hminute hc, hmain]
    rfl
  · have hc : s.counting = false := by simp [State.counting, hmain, hretention]
    rw [hsecond, hexec, State.secondTick, State.minuteTick, hc]
    exact ⟨rfl, rfl⟩
  · have hc : s.counting = true := by simp [State.counting, hmain]
    obtain ⟨hin, hout⟩ := State.siteOpenAt_ticked s s.clock.ticked s.log (isOpen := isOpen) Iff.rfl
    have heval : s.minuteTick = ticked.evaluatePhase true := (State.minuteTick_eq hminute hc).trans (if_pos hmain)
    rw [hexec, heval]
    refine ⟨_, rfl, ?_⟩
    by_cases ho : isOpen
    · by_cases hp : s.clock.phase = .opened
      · rw [State.evaluatePhase_open_inside (a := ticked) true hp (hin ho)]
        exact ⟨rfl, rfl, rfl, fun _ _ => rfl, fun _ h => absurd ho h, fun _ _ h => absurd ho h, fun h => absurd hp h,
          fun _ h => absurd ho h⟩
      · rw [State.evaluatePhase_shut_inside (a := ticked) true hp (hin ho)]
        obtain ⟨hframe, hclock, hroster, hlog, hhanded⟩ := State.openEvent_eq s s.clock.ticked s.log
        exact ⟨congrArg Clock.minute hclock, congrArg Clock.seconds hclock, hframe, fun h => absurd h hp, fun _ h => absurd ho h,
          fun _ _ h => absurd ho h, fun _ _ => ⟨congrArg Clock.phase hclock, hroster, hlog, hhanded⟩, fun _ h => absurd ho h⟩
    · cases hp : s.clock.phase with
      | opened =>
        rw [State.evaluatePhase_open_outside (a := ticked) true hp (hout ho)]
        obtain ⟨hframe, hclock, hroster, hlog, hhanded⟩ := State.closeEvent_eq s s.clock.ticked s.log
        exact ⟨congrArg Clock.minute hclock, congrArg Clock.seconds hclock, hframe, fun _ h => absurd h ho,
          fun _ _ => ⟨congrArg Clock.phase hclock, hroster, hlog, hhanded⟩, nofun, fun h => absurd rfl h, nofun⟩
      | closing g =>
        rw [State.evaluatePhase_closing_outside (a := ticked) true hp (hout ho), if_pos rfl, State.closingTick_eq]
        refine ⟨rfl, rfl, rfl, nofun, nofun, fun k hk _ => ?_, fun _ h => absurd h ho, nofun⟩
        cases hk
        exact ⟨rfl, rfl, rfl, rfl, rfl⟩
      | closed =>
        rw [State.evaluatePhase_closed_outside (a := ticked) true hp (hout ho)]
        exact ⟨rfl, rfl, rfl, nofun, nofun, nofun, fun _ h => absurd h ho, fun _ _ => rfl⟩

/-! ### SET CLOCK (R26, R32) -/

theorem runSetClock_eq (args : List Byte) (s : State) :
    runSetClock args s = if 10080 ≤ wordAt args 0 then (.badArgument, s) else (.ok, s.setTime (wordAt args 0)) := by
  simp only [runSetClock, answer_cons, answer_nil, decide_eq_true_eq, Config.weekMinutes]

/-- A SET CLOCK that is taken. -/
theorem exec_setClock_taken {l : Lines} {args : List Byte} (h : s.takes .office) (ha : 2 ≤ args.length)
    (hm : wordAt args 0 < 10080) :
    exec (.setClock (whole .office args l)) s =
      .next (s.taken (s.setTime (wordAt args 0)) .office .ok (args.length + 1)) :=
  exec_officeWrite .setClock h rfl rfl ha ((runSetClock_eq args s).trans (if_neg (Nat.not_le.2 hm)))

/-- Settles O16: the checks, then the phase evaluation of the new minute. -/
theorem setClock : Obligations.SetClock := by
  intro s l args h ha n m isOpen s1 moved restored
  let k : Clock := { s.clock with minute := m, seconds := 0 }
  let g : Log := s.log.append m (.clockSet s.clock.minute)
  have hs1 : s1 = { s with clock := k, log := g } := rfl
  have htime : s.setTime m = s1.evaluatePhase false := rfl
  obtain ⟨hin, hout⟩ := State.siteOpenAt_ticked s k g (isOpen := isOpen) Iff.rfl
  refine ⟨fun hm => ?_, fun hm hphase => ?_, fun hm hp ho => ?_, fun hm hp ho => ?_⟩
  · exact exec_officeWrite .setClock h rfl rfl ha ((runSetClock_eq args s).trans (if_pos hm))
  · have hsame : s1.evaluatePhase false = s1 := by
      by_cases ho : isOpen
      · exact State.evaluatePhase_open_inside (a := s1) false (hphase.2 ho) (hin ho)
      · cases hp : s.clock.phase with
        | opened => exact absurd (hphase.1 hp) ho
        | closing g => exact (State.evaluatePhase_closing_outside (a := s1) false hp (hout ho)).trans (if_neg Bool.false_ne_true)
        | closed => exact State.evaluatePhase_closed_outside (a := s1) false hp (hout ho)
    rw [exec_setClock_taken h ha hm, htime, hsame]
  · obtain ⟨hframe, hclock, hroster, hlog, hhanded⟩ := State.closeEvent_eq s k g
    refine ⟨s1.closeEvent, ?_, hframe, hclock, hroster, hlog, hhanded⟩
    rw [exec_setClock_taken h ha hm, htime, State.evaluatePhase_open_outside (a := s1) false hp (hout ho)]
  · obtain ⟨hframe, hclock, hroster, hlog, hhanded⟩ := State.openEvent_eq s k g
    refine ⟨s1.openEvent, ?_, hframe, hclock, hroster, hlog, hhanded⟩
    rw [exec_setClock_taken h ha hm, htime, State.evaluatePhase_shut_inside (a := s1) false hp (hin ho)]

end

end Sys2Proof.Machine
end

section
/-! What every step keeps of the loader, the log and the parameter block (R139, R153, R156, R157, R165), and what holds the fire
latch and a table fault (R158, R159, R161). -/

namespace Sys2Proof.Machine

set_option Elab.async false -- one thread for the file, as in the tests: a thread for each theorem reaches the memory limit

/-! ### The loader (R139) -/

/-- The counts of a load (R139). -/
def Loader.lawful (l : Loader) : Prop :=
  l.buffer.length ≤ Config.loaderBuffer ∧ l.nextTarget + l.remaining ≤ l.kind.tableSize ∧
    if l.active then l.committed + l.skipped + l.remaining = l.count ∧ l.buffer.length ≤ l.remaining ∧ 0 < l.remaining
    else l.buffer = []

theorem State.loaderLaw_iff (s : State) : s.loaderLaw ↔ s.loader.lawful := Iff.rfl

theorem loaderLaw_reads : Reads State.loaderLaw [.loader] := fun s t h hs => by
  rw [State.loaderLaw_iff, show t.loader = s.loader from h .loader rfl]
  exact hs

/-- A load that is IDLE with an empty buffer. -/
theorem Loader.lawful_idle {l : Loader} (h : l.lawful) : ({ l with active := false, buffer := [] } : Loader).lawful := by
  obtain ⟨-, htarget, -⟩ := h
  exact ⟨Nat.zero_le _, htarget, rfl⟩

section
variable {s : State} {args : List Byte}

theorem runLoadBegin_loaderLaw (hs : s.loaderLaw) : (runLoadBegin args s).2.loaderLaw := by
  have hsize : (if natAt args 0 = 0 then LoadKind.tenant else .unitFloor).tableSize =
      if natAt args 0 = 0 then 2048 else 3072 := by
    split_ifs <;> rfl
  rw [runLoadBegin_eq]
  dsimp only
  generalize (if natAt args 0 = 0 then LoadKind.tenant else .unitFloor) = kind at *
  generalize (if natAt args 0 = 0 then 2048 else 3072) = size at *
  split
  case isTrue => exact hs
  case isFalse hbad =>
    rw [not_or, not_or, Nat.not_le, Nat.not_le] at hbad
    obtain ⟨-, hrequested, hfirst⟩ := hbad
    split
    · exact hs
    split
    · exact hs
    refine ⟨Nat.zero_le _, ?_, ?_⟩
    · show wordAt args 1 + min (wordAt args 3) (size - wordAt args 1) ≤ kind.tableSize
      rw [hsize]
      omega
    · show 0 + 0 + min (wordAt args 3) (size - wordAt args 1) = min (wordAt args 3) (size - wordAt args 1) ∧
        0 ≤ min (wordAt args 3) (size - wordAt args 1) ∧ 0 < min (wordAt args 3) (size - wordAt args 1)
      omega

theorem runLoadAbort_loaderLaw (hs : s.loaderLaw) : (runLoadAbort s).2.loaderLaw := by
  rw [runLoadAbort_eq]
  split_ifs
  exacts [Loader.lawful_idle hs, hs]

/-- A record is buffered only while the load awaits more than it holds. -/
theorem runLoadData_loaderLaw (hs : s.loaderLaw) : (runLoadData args s).2.loaderLaw := by
  cases hactive : s.loader.active with
  | false => rwa [runLoadData_idle hactive]
  | true =>
    cases hr : loadRecordOf s.loader.kind args with
    | none => rwa [runLoadData_none hactive hr]
    | some r =>
      rw [runLoadData_some hactive hr]
      split_ifs with hcount hfull
      · exact hs
      · exact hs
      obtain ⟨-, htarget, hcounts⟩ := hs
      rw [if_pos hactive] at hcounts
      refine ⟨?_, htarget, ?_⟩
      · show (s.loader.buffer ++ [r]).length ≤ 4
        rw [List.length_append, List.length_singleton]
        omega
      · show if s.loader.active then _ else _
        rw [if_pos hactive]
        dsimp only
        rw [List.length_append, List.length_singleton]
        omega

/-- The examination takes one record, and the last of the load finds the buffer at its end. -/
theorem State.takeRecord_loaderLaw (key : Bool) (hs : s.loaderLaw) : (s.takeRecord key).loaderLaw := by
  rcases s.takeRecord_cases key with h | ⟨r, rest, hbuffer, goes, es, h, hgoes⟩
  · rwa [h]
  obtain ⟨hlength, htarget, hcounts⟩ := hs
  have hactive : s.loader.active = true := by
    by_contra hidle
    rw [if_neg hidle, hbuffer] at hcounts
    exact List.cons_ne_nil _ _ hcounts
  rw [if_pos hactive, hbuffer, List.length_cons] at hcounts
  rw [hbuffer, List.length_cons] at hlength
  rw [State.loaderLaw_iff, h, State.logged_frame]
  generalize (s.examine key s.loader.nextTarget r).1 = commits at hgoes ⊢
  have hsum : (s.loader.examined rest commits).committed + (s.loader.examined rest commits).skipped =
      s.loader.committed + s.loader.skipped + 1 := by
    cases commits <;> simp only [Loader.examined, Bool.false_eq_true, if_false, if_true] <;> omega
  rw [hsum, hactive] at hgoes
  refine ⟨(Nat.le_succ _).trans hlength, ?_, ?_⟩
  · show s.loader.nextTarget + 1 + (s.loader.remaining - 1) ≤ _
    exact (by omega : _ ≤ s.loader.nextTarget + s.loader.remaining).trans htarget
  · show if goes then (s.loader.examined rest commits).committed + (s.loader.examined rest commits).skipped +
        (s.loader.remaining - 1) = s.loader.count ∧ rest.length ≤ s.loader.remaining - 1 ∧ 0 < s.loader.remaining - 1 else rest = []
    rw [hsum, hgoes]
    by_cases hdone : s.loader.committed + s.loader.skipped + 1 = s.loader.count
    · rw [if_pos hdone]
      exact List.length_eq_zero_iff.1 (by omega)
    · rw [if_neg hdone, if_pos rfl]
      omega

end

/-- Every step keeps the counts of a load. -/
theorem exec_loaderLaw (i : Instr) (s t : State) (hs : s.loaderLaw) (h : exec i s = .next t) : t.loaderLaw := by
  refine exec_keeps_resets loaderLaw_reads (fun c l args s hc hm _ hs => ?_) (fun i s hi hm hs => ?_) (fun s p hs => ?_)
    (fun s hs => ?_) (i := i) (s := s) (t := t) (hs := hs) (h := h)
  · cases c
    case loadBegin => exact runLoadBegin_loaderLaw hs
    case loadData => exact runLoadData_loaderLaw hs
    case loadAbort => exact runLoadAbort_loaderLaw hs
    case deviceReset => exact absurd rfl hc
    all_goals exact absurd (show false = true from hm) Bool.false_ne_true
  · cases i
    case loaderExamine key => exact State.takeRecord_loaderLaw key hs
    case pinReset | coldReset | retentionReset => exact absurd (show true = false from hi) Bool.true_eq_false_eq_False.elim
    all_goals exact absurd (show false = true from hm) Bool.false_ne_true
  · exact Loader.lawful_idle hs
  · exact ⟨Nat.zero_le _, Nat.zero_le _, rfl⟩

/-! ### The log (R165) -/

/-- The bound and the order of the log (R165). -/
def Log.lawful (g : Log) : Prop :=
  g.records.length ≤ Config.logCapacity ∧
    ∀ k r, g.records[k]? = some r → r.seq + BitVec.ofNat 16 (g.records.length - k) = g.next

theorem Log.lawful_drop {g : Log} (h : g.lawful) (n : Nat) : ({ g with records := g.records.drop n } : Log).lawful := by
  obtain ⟨hlength, hseq⟩ := h
  refine ⟨?_, fun k r hr => ?_⟩
  · show (g.records.drop n).length ≤ _
    rw [List.length_drop]
    omega
  · rw [List.getElem?_drop] at hr
    show r.seq + BitVec.ofNat 16 ((g.records.drop n).length - k) = g.next
    rw [List.length_drop, Nat.sub_sub]
    exact hseq (n + k) r hr

/-- An append discards the oldest of 512 records and numbers the new one with the next number. -/
theorem Log.lawful_append {g : Log} (h : g.lawful) (minute : Nat) (e : Event) : (g.append minute e).lawful := by
  have hdropped : ({ g with records := if 512 ≤ g.records.length then g.records.tail else g.records } : Log).lawful := by
    split
    · rw [← List.drop_one]
      exact Log.lawful_drop h 1
    · exact h
  have hroom : (if 512 ≤ g.records.length then g.records.tail else g.records).length < 512 := by
    have hlength : g.records.length ≤ 512 := h.1
    split
    · rw [List.length_tail]
      omega
    · omega
  rw [Log.append_eq]
  generalize (if 512 ≤ g.records.length then g.records.tail else g.records) = old at *
  obtain ⟨-, hseq⟩ := hdropped
  refine ⟨?_, fun k r hr => ?_⟩
  · show (old ++ _).length ≤ 512
    rw [List.length_append, List.length_singleton]
    exact hroom
  · show r.seq + BitVec.ofNat 16 ((old ++ _).length - k) = g.next + 1
    rw [List.length_append, List.length_singleton]
    rcases Nat.lt_or_ge k old.length with hk | hk
    · rw [List.getElem?_append_left hk] at hr
      rw [← hseq k r hr, Nat.sub_add_comm (Nat.le_of_lt hk), BitVec.ofNat_add, BitVec.add_assoc]
      rfl
    · rw [List.getElem?_append_right hk] at hr
      obtain ⟨hlt, hnew⟩ := List.getElem?_eq_some_iff.1 hr
      rw [List.length_singleton] at hlt
      obtain rfl : k = old.length := by omega
      rw [Nat.add_sub_cancel_left]
      simp only [Nat.sub_self, List.getElem_cons_zero] at hnew
      rw [← hnew]
      rfl

theorem Log.Grows.lawful {g h : Log} (hgrows : Log.Grows g h) (hg : g.lawful) : h.lawful := by
  obtain ⟨es, rfl⟩ := hgrows
  induction es generalizing g with
  | nil => exact hg
  | cons e es ih => exact ih (Log.lawful_append hg e.1 e.2)

theorem logLaw_reads : Reads State.logLaw [.log] := fun _ _ h hs => Log.Grows.lawful (h .log rfl) hs

/-- Every step keeps the log's bound and order. -/
theorem exec_logLaw (i : Instr) (s t : State) (hs : s.logLaw) (h : exec i s = .next t) : t.logLaw := by
  refine exec_keeps_resets logLaw_reads (fun c l args s hc hm _ hs => ?_) (fun i s hi hm hs => ?_) (fun s p hs => hs)
    (fun s hs => ⟨Nat.zero_le _, by simp [State.coldStart, State.dropRetained]⟩)
    (hread := fun c bytes m s hr hm hs => ?_) (i := i) (s := s) (t := t) (hs := hs) (h := h)
  · cases c
    case deviceReset => exact absurd rfl hc
    case logRead => exact hs
    all_goals exact absurd (show false = true from hm) Bool.false_ne_true
  · cases i
    case coldReset | retentionReset => exact nomatch hi
    all_goals exact absurd (show false = true from hm) Bool.false_ne_true
  · cases c
    case logRead =>
      show (s.removeRead m bytes).logLaw
      rw [State.removeRead_eq]
      exact Log.lawful_drop hs _
    case deviceReset => exact nomatch hr
    all_goals exact absurd (show false = true from hm) Bool.false_ne_true

/-! ### The parameter block and its sweep (R153, R156, R157) -/

section
variable {s u : State}

/-- The block, the edit window and the sweep timer (R153, R156, R157). -/
def State.blockLaw (s : State) : Prop := s.paramLaw ∧ s.sweepLaw

theorem State.blockGood_congr (h : u.params = s.params) : u.blockGood = s.blockGood := by
  unfold State.blockGood State.blockSum State.param
  rw [h]

theorem State.blockLaw_of (hmode : u.control.mode = .normal → s.control.mode = .normal ∨ s.blockGood = true)
    (hparams : u.params = s.params) (hwindow : u.window = s.window) (hsweep : u.sweep.isSome = s.sweep.isSome)
    (hs : s.blockLaw) : u.blockLaw := by
  obtain ⟨hparam, hsweeps⟩ := hs
  refine ⟨fun hm hw => ?_, ?_⟩
  · rw [State.blockGood_congr hparams]
    rcases hmode hm with hm | hgood
    · exact hparam hm (hwindow ▸ hw)
    · exact hgood
  · show u.window = none ↔ _
    rw [hwindow, hsweep]
    exact hsweeps

theorem blockLaw_reads : Reads State.blockLaw [.control, .timers, .params] := fun s t h =>
  have hcontrol : t.control = s.control := h .control rfl
  have htimers : t.window = s.window ∧ t.sweep = s.sweep := h .timers rfl
  State.blockLaw_of (fun hm => .inl (by rw [← hcontrol]; exact hm)) (h .params rfl) htimers.1 (by rw [htimers.2])

/-- A state whose work is dropped, restarted: the mode is NORMAL only where the block is good (R162). -/
theorem State.restart_blockLaw (hu : s.dropWork = s) (cause : ResetCause) (l : Lines) (f : Bool) :
    (s.restart cause l f).blockLaw := by
  obtain ⟨hframe, -, -⟩ := s.restart_eq cause l f
  generalize s.restart cause l f = t at *
  have hwindow : t.window = none := by rw [hframe, ← hu]; rfl
  have hsweep : t.sweep = some 100000 := by rw [hframe, ← hu]; rfl
  refine ⟨fun hm _ => ?_, ?_⟩
  · rw [State.blockGood_congr (s := s) (by rw [hframe])]
    by_contra hbad
    have hmode : t.control.mode = .fallback := by
      rw [hframe]
      exact if_neg fun h => hbad h.2
    exact absurd (hm.symm.trans hmode) nofun
  · show t.window = none ↔ _
    rw [hwindow, hsweep]
    exact ⟨fun _ => rfl, fun _ => rfl⟩

/-- The window closed: a bad sum leaves FALLBACK (R156). -/
theorem State.closed_blockLaw (cause : ModeCause) : (s.closed cause).blockLaw := by
  have hparams : (s.closed cause).params = s.params := by
    show (s.logged _).params = s.params
    rw [State.logged_frame]
  refine ⟨fun hm _ => ?_, ⟨fun _ => rfl, fun _ => rfl⟩⟩
  rw [State.blockGood_congr hparams]
  by_contra hbad
  have hmode : (s.closed cause).control.mode = .fallback :=
    congrArg Control.mode (if_neg hbad : (if s.blockGood then s.control else { s.control with mode := .fallback }) = _)
  exact absurd (hm.symm.trans hmode) nofun

theorem State.sweepBlock_blockLaw (hs : s.blockLaw) : s.sweepBlock.blockLaw := by
  rw [State.sweepBlock_eq]
  split
  · exact hs
  case isFalse hsweep =>
    have hrunning : s.sweep.isSome = true := Option.isSome_iff_ne_none.2 hsweep
    split
    · exact State.blockLaw_of (s := s) .inl rfl rfl hrunning.symm hs
    · rw [State.logged_frame]
      exact State.blockLaw_of (s := s) (fun h => nomatch h) rfl rfl hrunning.symm hs

theorem State.fireActive_control :
    s.fireActive.control = if s.control.fireLive then s.control else { s.control with fireLive := true, fireLatch := true } := by
  unfold State.fireActive
  split
  · rfl
  · dsimp only
    split
    · rfl
    · exact (State.fireChannels_only _ .control rfl).trans (State.fireEngine_only _ .control rfl)

theorem State.fireInactive_control : s.fireInactive.control = { s.control with fireLive := false } := by
  unfold State.fireInactive
  split
  · rfl
  case isFalse h =>
    have hlive : s.control.fireLive = false := by simpa using h
    rw [← hlive]

theorem runFireClear_control (s : State) :
    (runFireClear s).2.control =
      if s.control.fireLive then s.control else { s.control with fireLatch := false } := by
  rw [runFireClear_eq]
  split
  · rfl
  split
  case isTrue h => exact congrArg (fun b => { s.control with fireLatch := b }) h
  case isFalse =>
    generalize hu : ({ s with control := { s.control with fireLatch := false } } : State).append .fireCleared = u
    have hcontrol : u.control = { s.control with fireLatch := false } := by rw [← hu]; rfl
    exact (State.clearChannels_only (s := u) .control rfl).trans hcontrol

theorem State.enterFallback_control (cause : ModeCause) :
    (s.enterFallback cause).control = { s.control with mode := .fallback } := by
  unfold State.enterFallback
  split
  · rfl
  case isFalse h =>
    have hmode : s.control.mode = .fallback := by cases hm : s.control.mode <;> first | rfl | exact absurd hm h
    rw [← hmode]

/-- Every step keeps the law of the block and its sweep. -/
theorem exec_blockLaw (i : Instr) (s t : State) (hs : s.blockLaw) (h : exec i s = .next t) : t.blockLaw := by
  refine exec_keeps blockLaw_reads rfl (fun c l args s hm hrun hs => ?_) (fun c bytes m s hr hm hs => ?_)
    (fun i s hm hs => ?_) i s t hs h
  · cases c
    case paramOpen =>
      show (runParamOpen s).2.blockLaw
      rcases answer_inv [(s.window.isSome, .state)] s { s with window := some (s.now + Config.editWindow), sweep := none } with
        h | ⟨-, h⟩
      · rw [show (runParamOpen s).2 = s from h]
        exact hs
      · rw [show (runParamOpen s).2 = _ from h]
        exact ⟨fun _ hw => (nomatch hw), ⟨fun hw => (nomatch hw), fun hw => (nomatch hw)⟩⟩
    case paramWrite =>
      show (runParamWrite l.svckey args s).2.blockLaw
      rcases runParamWrite_cases l.svckey args s with h | ⟨-, hwindow, -, h⟩
      · rw [h]
        exact hs
      · rw [h]
        obtain ⟨hw, hsweep⟩ := s.storeWord_only (natAt args 0) (longAt args 1) .timers rfl
        refine ⟨fun _ hnone => absurd (hw.symm.trans hnone) hwindow, ?_⟩
        show _ = none ↔ _
        rw [hw, hsweep]
        exact hs.2
    case paramClose =>
      show (runParamClose s).2.blockLaw
      unfold runParamClose
      split
      · exact hs
      · show (s.closeWindow .close).blockLaw
        rw [State.closeWindow_eq]
        exact s.closed_blockLaw .close
    case fireClear =>
      have ho := runCommand_only .fireClear l args s
      have htimers := ho .timers rfl
      refine State.blockLaw_of (fun hm => .inl ?_) (ho .params rfl) htimers.1 (by rw [htimers.2]) hs
      rw [show (runCommand .fireClear l args s).2.control = _ from runFireClear_control s] at hm
      split at hm <;> exact hm
    case fallbackEnter =>
      have ho := runCommand_only .fallbackEnter l args s
      have htimers := ho .timers rfl
      refine State.blockLaw_of (fun hm => ?_) (ho .params rfl) htimers.1 (by rw [htimers.2]) hs
      rw [show (runCommand .fallbackEnter l args s).2.control = _ from State.enterFallback_control .command] at hm
      exact nomatch hm
    case fallbackRelease =>
      have ho := runCommand_only .fallbackRelease l args s
      have htimers := ho .timers rfl
      refine State.blockLaw_of (fun hm => ?_) (ho .params rfl) htimers.1 (by rw [htimers.2]) hs
      rcases answer_inv [(s.control.mode == .normal || s.window.isSome, .state), (s.control.tableFault, .tableFault),
        (!s.blockGood, .sumBad)] s ((s.setControl { s.control with mode := .normal }).append (.mode .release .normal)) with
        h | ⟨hchecks, -⟩
      · exact .inl (by rwa [show (runCommand .fallbackRelease l args s).2 = s from h] at hm)
      · exact .inr (by simpa using hchecks (!s.blockGood, .sumBad) (by simp))
    case deviceReset =>
      show (s.warmReset .command l).blockLaw
      rw [State.warmReset_eq]
      exact State.restart_blockLaw (s.warmStart_dropWork _) .command l false
    all_goals exact absurd (show false = true from hm) Bool.false_ne_true
  · cases c
    case paramOpen | paramWrite | paramClose | fireClear | fallbackEnter | fallbackRelease | deviceReset => exact nomatch hr
    all_goals exact absurd (show false = true from hm) Bool.false_ne_true
  · cases i
    case fireInputActive =>
      have ho := runEvent_only .fireInputActive s
      have htimers := ho .timers rfl
      refine State.blockLaw_of (fun hm => .inl ?_) (ho .params rfl) htimers.1 (by rw [htimers.2]) hs
      rw [show (runEvent .fireInputActive s).control = _ from State.fireActive_control] at hm
      split at hm <;> exact hm
    case fireInputInactive =>
      have ho := runEvent_only .fireInputInactive s
      have htimers := ho .timers rfl
      refine State.blockLaw_of (fun hm => .inl ?_) (ho .params rfl) htimers.1 (by rw [htimers.2]) hs
      rwa [show (runEvent .fireInputInactive s).control = _ from State.fireInactive_control] at hm
    case editWindowExpiry =>
      show s.windowExpired.blockLaw
      unfold State.windowExpired
      split
      · exact hs
      · rw [State.closeWindow_eq]
        exact s.closed_blockLaw .expiry
    case integritySweep => exact State.sweepBlock_blockLaw hs
    case coldReset l b =>
      show (s.coldReset l b).blockLaw
      rw [State.coldReset_eq]
      exact State.restart_blockLaw s.coldStart_dropWork .cold l !b
    case retentionReset l b =>
      show (s.powerReturns l b).blockLaw
      rw [State.powerReturns_eq]
      split
      · exact State.restart_blockLaw (s.warmStart_dropWork _) .retention l !b
      · exact State.restart_blockLaw s.coldStart_dropWork .cold l !b
    case pinReset l =>
      show (s.pinReset l).blockLaw
      rw [State.pinReset_eq]
      split
      · exact State.restart_blockLaw (s.warmStart_dropWork _) .pin l false
      · exact (s.setPower_only _).keeps blockLaw_reads rfl hs
    all_goals exact absurd (show false = true from hm) Bool.false_ne_true

/-- Settles O53: each law by the operations that write what it reads. -/
theorem loaderLogAndBlockKeepTheirLaws : Obligations.LoaderLogAndBlockKeepTheirLaws :=
  ⟨exec_loaderLaw, exec_logLaw, exec_blockLaw⟩

/-! ### The fire latch and the table fault (R158, R159, R161) -/

/-- A latch under an active FIRE input, and a table fault, hold from `k` to `k'`. -/
def Control.Holds (k k' : Control) : Prop :=
  (k.fireLive = true → k.fireLatch = true → k'.fireLatch = true) ∧ (k.tableFault = true → k'.tableFault = true)

theorem Control.Holds.refl (k : Control) : k.Holds k := ⟨fun _ h => h, id⟩

theorem Control.Holds.of_eq {k k' : Control} (hlatch : k'.fireLatch = k.fireLatch) (hfault : k'.tableFault = k.tableFault) :
    k.Holds k' := ⟨fun _ h => hlatch.trans h, hfault.trans⟩

/-- A restart of a state whose work alone is dropped (R161, R162). -/
theorem State.restart_holds (s : State) (p : Power) (cause : ResetCause) (l : Lines) (f : Bool) :
    s.control.Holds ((s.warmStart p).restart cause l f).control := by
  rw [((s.warmStart p).restart_eq cause l f).1]
  exact ⟨fun _ h => by simp [State.restarted, State.warmStart, State.dropWork, h],
    fun h => by simp [State.restarted, State.warmStart, State.dropWork, h]⟩

theorem State.closed_holds (s : State) (cause : ModeCause) : s.control.Holds (s.closed cause).control := by
  show s.control.Holds (if s.blockGood then s.control else { s.control with mode := .fallback })
  split
  · exact .refl _
  · exact .of_eq rfl rfl

theorem runCommand_holds (c : Command) (l : Lines) (args : List Byte) (s : State) :
    s.control.Holds (runCommand c l args s).2.control := by
  have keep (h : Part.control.isIn (commandParts c) = false) : s.control.Holds (runCommand c l args s).2.control := by
    rw [show (runCommand c l args s).2.control = s.control from runCommand_only c l args s .control h]
    exact .refl _
  cases c
  case paramClose =>
    show s.control.Holds (runParamClose s).2.control
    unfold runParamClose
    split
    · exact .refl _
    · show s.control.Holds (s.closeWindow .close).control
      rw [State.closeWindow_eq]
      exact s.closed_holds .close
  case fireClear =>
    show s.control.Holds (runFireClear s).2.control
    rw [runFireClear_control]
    split
    · exact .refl _
    case isFalse h => exact ⟨fun hlive => absurd hlive h, id⟩
  case fallbackEnter =>
    show s.control.Holds (s.enterFallback .command).control
    rw [State.enterFallback_control]
    exact .of_eq rfl rfl
  case fallbackRelease =>
    rcases answer_inv [(s.control.mode == .normal || s.window.isSome, .state), (s.control.tableFault, .tableFault),
      (!s.blockGood, .sumBad)] s ((s.setControl { s.control with mode := .normal }).append (.mode .release .normal)) with
      h | ⟨-, h⟩
    · rw [show (runCommand .fallbackRelease l args s).2 = s from h]
      exact .refl _
    · rw [show (runCommand .fallbackRelease l args s).2 = _ from h]
      exact .of_eq rfl rfl
  case deviceReset => exact s.restart_holds _ .command l false
  all_goals exact keep rfl

theorem runEvent_holds (i : Instr) (s : State) (hcold : makesCold i s = false) : s.control.Holds (runEvent i s).control := by
  have keep (h : Part.control.isIn (eventParts i) = false) : s.control.Holds (runEvent i s).control := by
    rw [show (runEvent i s).control = s.control from runEvent_only i s .control h]
    exact .refl _
  cases i
  case fireInputActive =>
    show s.control.Holds s.fireActive.control
    rw [State.fireActive_control]
    split
    · exact .refl _
    · exact ⟨fun _ _ => rfl, id⟩
  case fireInputInactive =>
    show s.control.Holds s.fireInactive.control
    rw [State.fireInactive_control]
    exact .of_eq rfl rfl
  case editWindowExpiry =>
    show s.control.Holds s.windowExpired.control
    unfold State.windowExpired
    split
    · exact .refl _
    · rw [State.closeWindow_eq]
      exact s.closed_holds .expiry
  case integritySweep =>
    show s.control.Holds s.sweepBlock.control
    rw [State.sweepBlock_eq]
    split
    · exact .refl _
    split
    · exact .refl _
    · rw [State.logged_frame]
      exact .of_eq rfl rfl
  case coldReset => exact nomatch hcold
  case retentionReset l b =>
    show s.control.Holds (s.powerReturns l b).control
    have hvalid : s.power.retention = true := by simpa [makesCold] using hcold
    rw [State.powerReturns_eq, if_pos hvalid]
    exact s.restart_holds _ .retention l !b
  case pinReset l =>
    show s.control.Holds (s.pinReset l).control
    rw [State.pinReset_eq]
    split
    · exact s.restart_holds _ .pin l false
    · exact .refl _
  all_goals exact keep rfl

/-- Outside a COLD reset both hold at every step. -/
theorem exec_holds (i : Instr) (s t : State) (hcold : makesCold i s = false) (h : exec i s = .next t) :
    s.control.Holds t.control := by
  obtain ⟨u, htook, hengine⟩ := exec_took i s t h
  rw [show t.control = u.control from hengine.1 .control rfl]
  cases htook with
  | idle => exact .refl _
  | command c l args => exact runCommand_holds c l args s
  | read c bytes m hr =>
    rw [show (endRead c bytes m s).control = s.control from
      endRead_only c bytes m s .control (by cases c <;> first | rfl | exact nomatch hr)]
    exact .refl _
  | event => exact runEvent_holds i s hcold

/-- A COLD reset sets the table fault by the memory check alone (R161). -/
theorem exec_coldReset_fault {s t : State} {l : Lines} {b : Bool} (h : exec (.coldReset l b) s = .next t)
    (hfault : t.control.tableFault = false) : b = true := by
  obtain rfl := Host.Outcome.next.inj ((exec_coldReset s l b).symm.trans h)
  rw [(s.coldStart.restart_eq .cold l !b).1] at hfault
  have hboth : s.coldStart.control.tableFault = false ∧ b = true := by simpa [State.restarted] using hfault
  exact hboth.2

/-- Settles O59: outside a COLD reset both hold, and a COLD reset clears a fault only where its check passes. -/
theorem latchAndTableFaultHold : Obligations.LatchAndTableFaultHold := by
  refine ⟨fun i s t hlive hlatch hcold h => (exec_holds i s t hcold h).1 hlive hlatch, fun i s t hset h hclear => ?_⟩
  cases hcold : makesCold i s with
  | false => exact absurd (hclear.symm.trans ((exec_holds i s t hcold h).2 hset)) Bool.false_ne_true
  | true =>
    cases i
    case coldReset l b =>
      obtain rfl := exec_coldReset_fault h hclear
      exact ⟨l, .inl rfl⟩
    case retentionReset l b =>
      have hinvalid : s.power.retention = false := by simpa [makesCold] using hcold
      rw [exec_retentionReset_cold hinvalid] at h
      obtain rfl := exec_coldReset_fault h hclear
      exact ⟨l, .inr ⟨rfl, hinvalid⟩⟩
    all_goals exact nomatch hcold

end

end Sys2Proof.Machine
end

section
/-! What every step keeps of the gate channels (R118 to R135): contact, drive and timers fit the state, UNLOCKED is the unlocked
condition, and a channel of mode LOCKED is driven only by the fire latch. The operations that leave the conditions alone serve
each channel within its state; those that change a condition move the channels it reaches. -/

namespace Sys2Proof.Machine

set_option Elab.async false -- one thread for the file, as in the tests: a thread for each theorem reaches the memory limit

/-! ### One channel served within its state -/

/-- `y` is `x` after an operation that changes no unlocked condition; `locked` says that the channel's mode is LOCKED. -/
def Channel.Serves (locked : Prop) (x y : Channel) : Prop :=
  (x.lawful → y.lawful) ∧ (y.state = .unlocked ↔ x.state = .unlocked) ∧ (locked → x.drive = .off → y.drive = .off)

section
variable {locked : Prop} {x y z : Channel}

theorem Channel.Serves.refl (x : Channel) : x.Serves locked x := ⟨id, Iff.rfl, fun _ => id⟩

theorem Channel.Serves.trans (h : x.Serves locked y) (k : y.Serves locked z) : x.Serves locked z :=
  ⟨k.1 ∘ h.1, k.2.1.trans h.2.1, fun hl hx => k.2.2 hl (h.2.2 hl hx)⟩

/-- What a channel carries, and the level of its egress input, are no part of what is served. -/
theorem Channel.Serves.carrying (n : Option Nat) (b : Bool) : x.Serves locked { x with carried := n, egress := b } :=
  ⟨id, Iff.rfl, fun _ => id⟩

/-- The law of a channel whose drive is on. -/
def Channel.lawfulOn (x : Channel) : Prop :=
  match x.state with
  | .released => x.gateOpen = false ∧ x.releaseTimer.isSome ∧ x.heldOpenTimer = none
  | .passing => x.gateOpen = true ∧ x.releaseTimer.isSome ∧ x.heldOpenTimer.isSome
  | .propped => x.gateOpen = true ∧ x.releaseTimer.isSome ∧ x.heldOpenTimer = none
  | .unlocked => x.releaseTimer = none ∧ x.heldOpenTimer = none
  | .secure | .forced => False

theorem Channel.lawful_of_on (hpick : x.pickTimer.isSome → x.drive = .pick) (hon : x.drive ≠ .off) (h : x.lawfulOn) :
    x.lawful := by
  refine ⟨hpick, ?_⟩
  have hsome (o : Option Nat) (ho : o.isSome) : x.drive = .off ↔ o = none :=
    ⟨fun hoff => absurd hoff hon, fun hnone => by rw [hnone] at ho; exact nomatch ho⟩
  unfold Channel.lawfulOn at h
  cases hs : x.state <;> rw [hs] at h
  case released => exact ⟨h.1, hon, h.2.1, h.2.2⟩
  case passing => exact ⟨h.1, hsome _ h.2.1, h.2.2⟩
  case propped => exact ⟨h.1, hsome _ h.2.1, h.2.2⟩
  case unlocked => exact ⟨hon, h⟩
  case secure => exact h.elim
  case forced => exact h.elim

/-- A drive turned on touches nothing but the drive and its pick timer. -/
theorem State.driven_eq (s : State) (x : Channel) :
    s.driven x = { x with drive := (s.driven x).drive, pickTimer := (s.driven x).pickTimer } := by
  unfold State.driven
  split <;> rfl

/-- A drive that is turned on, or was on. -/
theorem State.driven_lawful (s : State) (hpick : x.pickTimer.isSome → x.drive = .pick) (h : x.lawfulOn) :
    (s.driven x).lawful := by
  unfold State.driven
  split
  · exact Channel.lawful_of_on (fun _ => rfl) nofun h
  · exact Channel.lawful_of_on hpick ‹_› h

theorem State.driven_state (s : State) (x : Channel) : (s.driven x).state = x.state := by rw [State.driven_eq]

/-- The contact opens (R125). -/
theorem Channel.Serves.opened (s : State) (c : Nat) : (s.channel c).Serves locked (s.openedChannel c) := by
  refine ⟨fun ⟨hpick, h⟩ => ⟨hpick, ?_⟩, ?_, fun _ => id⟩ <;> unfold State.openedChannel
  · cases hs : (s.channel c).state <;> simp only [hs] at h ⊢
    case released => exact ⟨trivial, ⟨fun hoff => absurd hoff h.2.1, fun hnone => by simp [hnone] at h⟩, rfl⟩
    all_goals simp_all
  · cases (s.channel c).state <;> simp

/-- The contact closes (R126). -/
theorem Channel.Serves.closed (x : Channel) : x.Serves locked x.closed := by
  refine ⟨fun ⟨hpick, h⟩ => ?_, ?_, fun _ hoff => ?_⟩ <;> unfold Channel.closed
  · cases hs : x.state <;> simp only [hs] at h ⊢ <;> simp_all [Channel.lawful]
  · cases x.state <;> simp
  · cases x.state <;> simp [hoff]

/-- A release is taken, where the mode is not LOCKED (R121, R122). -/
theorem Channel.Serves.released (s : State) (c tenths : Nat) (hl : ¬ locked) : (s.channel c).Serves locked (s.released c tenths) := by
  refine ⟨fun ⟨hpick, h⟩ => ?_, ?_, fun h => absurd h hl⟩ <;> unfold State.released
  · cases hs : (s.channel c).state <;> simp only [hs] at h ⊢
    case secure => exact s.driven_lawful hpick ⟨h.1, rfl, h.2.2.2⟩
    case released => exact ⟨hpick, h.1, h.2.1, rfl, h.2.2.2⟩
    case passing => exact s.driven_lawful hpick ⟨h.1, rfl, h.2.2⟩
    case propped => exact s.driven_lawful hpick ⟨h.1, rfl, h.2.2⟩
    case forced => exact s.driven_lawful hpick ⟨h.1, rfl, rfl⟩
    case unlocked => exact ⟨hpick, by rw [hs]; exact h⟩
  · cases hs : (s.channel c).state <;> simp [State.driven_state, hs]

/-- A channel after its release timer expired, in every state (R123). -/
def Channel.expiry (x : Channel) : Channel :=
  match x.state with
  | .released => { x with state := .secure, releaseTimer := none, drive := .off, pickTimer := none }
  | .passing | .propped => { x with releaseTimer := none, drive := .off, pickTimer := none }
  | .secure | .forced | .unlocked => { x with releaseTimer := none }

theorem State.channelExpired_eq (s : State) (c : Nat) : s.channelExpired c = s.setChannel c (s.channel c).expiry := by
  unfold State.channelExpired Channel.expiry
  cases hs : (s.channel c).state <;> simp only [hs] <;> rfl

theorem Channel.Serves.expiry (x : Channel) : x.Serves locked x.expiry := by
  refine ⟨fun ⟨hpick, h⟩ => ?_, ?_, fun _ hoff => ?_⟩ <;> unfold Channel.expiry
  · cases hs : x.state <;> simp only [hs] at h ⊢ <;> simp_all [Channel.lawful]
  · cases x.state <;> simp
  · cases x.state <;> simp [hoff]

/-- The held-open timer expires (R127). -/
theorem Channel.Serves.heldOpen (x : Channel) :
    x.Serves locked { x with heldOpenTimer := none, state := if x.state = .passing then .propped else x.state } := by
  refine ⟨fun ⟨hpick, h⟩ => ⟨hpick, ?_⟩, ?_, fun _ => id⟩
  · cases hs : x.state <;> simp only [hs] at h ⊢ <;> simp_all
  · cases x.state <;> simp

/-- The pick timer expires (R135). -/
theorem Channel.Serves.pickOver (x : Channel) : x.Serves locked { x with pickTimer := none } :=
  ⟨fun h => ⟨nofun, h.2⟩, Iff.rfl, fun _ => id⟩

/-- A pick whose timer has run out becomes HOLD at a period start (R135). -/
theorem Channel.Serves.periodStart (x : Channel) : x.Serves locked x.periodStart := by
  unfold Channel.periodStart
  split
  case isFalse => exact .refl x
  case isTrue h =>
    obtain ⟨hpick, hnone⟩ := h
    refine ⟨fun ⟨_, hlaw⟩ => ⟨fun hsome => by simp [hnone] at hsome, ?_⟩, Iff.rfl, fun _ hoff => absurd (hpick.symm.trans hoff) nofun⟩
    cases hs : x.state <;> simp only [hs] at hlaw ⊢ <;> simp_all

end

/-! ### The operations that change no unlocked condition -/

/-- `t` is `s` after operations that change no unlocked condition and serve each channel within its state. -/
def State.Serves (s t : State) : Prop :=
  t.params = s.params ∧ ∀ c, (s.channel c).Serves (s.channelMode c = .locked) (t.channel c)

section
variable {s t u : State}

theorem State.channelMode_congr (h : t.params = s.params) (c : Nat) : t.channelMode c = s.channelMode c := by
  unfold State.channelMode State.modeByte State.param
  rw [h]

theorem State.Serves.refl (s : State) : s.Serves s := ⟨rfl, fun _ => .refl _⟩

theorem State.Serves.trans (h : s.Serves t) (k : t.Serves u) : s.Serves u :=
  ⟨k.1.trans h.1, fun c => (h.2 c).trans (by rw [← State.channelMode_congr h.1]; exact k.2 c)⟩

theorem State.Serves.of_eq (hparams : t.params = s.params) (hchannels : t.channels = s.channels) : s.Serves t :=
  ⟨hparams, fun c => by rw [State.channel_eq_of_channels hchannels]; exact .refl _⟩

/-- What is written elsewhere serves the channels as they are. -/
theorem Only.serves {ps : List Part} (h : Only ps s t) (hchannels : Part.channels.isIn ps = false := by rfl)
    (hparams : Part.params.isIn ps = false := by rfl) : s.Serves t := .of_eq (h .params hparams) (h .channels hchannels)

theorem State.Serves.setChannel (c : Nat) {x : Channel} (h : (s.channel c).Serves (s.channelMode c = .locked) x) :
    s.Serves (s.setChannel c x) := by
  refine ⟨rfl, fun d => ?_⟩
  rw [State.setChannel_channel]
  split
  case isTrue hd => rw [hd]; exact h
  case isFalse => exact .refl _

theorem State.Serves.logged (h : s.Serves t) (es : List Event) : s.Serves (t.logged es) :=
  h.trans (.of_eq (by rw [State.logged_frame]) (by rw [State.logged_frame]))

theorem State.Serves.ite {p : Prop} [Decidable p] (ht : s.Serves t) (hu : s.Serves u) : s.Serves (if p then t else u) := by
  split
  exacts [ht, hu]

theorem State.Serves.withCarried (c : Nat) {f : Nat → Passage → State} (h : ∀ n p, s.Serves (f n p)) :
    s.Serves (s.withCarried c f) := by
  unfold State.withCarried
  split
  · exact .refl s
  · split
    exacts [h _ _, .refl s]

theorem State.detach_serves (s : State) (n : Nat) (channel : Option Nat) : s.Serves (s.detach n channel) := by
  cases channel with
  | none => exact .refl s
  | some c => exact .ite (.setChannel c (.carrying none _)) (.refl s)

theorem State.endPassage_serves (s : State) (n : Nat) (p : Passage) (next : SlotState) : s.Serves (s.endPassage n p next) :=
  (s.setStation_only n _).serves.trans (State.detach_serves _ n p.channel)

theorem State.completePassage_serves (s : State) (n : Nat) (p : Passage) : s.Serves (s.completePassage n p) :=
  (s.complete_only _ _ _ _ _ _).serves.trans (State.endPassage_serves _ n p _)

theorem State.abandonPassage_serves (s : State) (n : Nat) (p : Passage) (cause : AbandonCause) :
    s.Serves (s.abandonPassage n p cause) := (s.append_only _).serves.trans (State.endPassage_serves _ n p _)

theorem State.gateOpened_serves (s : State) (c : Nat) : s.Serves (s.gateOpened c) := by
  unfold State.gateOpened
  rw [State.channelOpened_eq]
  exact (State.Serves.logged (.setChannel c (.opened s c)) _).trans (.withCarried c fun n p => (State.setPassage_only _ n _).serves)

theorem State.gateClosed_serves (s : State) (c : Nat) : s.Serves (s.gateClosed c) := by
  unfold State.gateClosed
  rw [State.channelClosed_eq]
  exact (State.Serves.logged (.setChannel c (.closed _)) _).trans
    (.withCarried c fun n p => .ite (State.completePassage_serves _ n p) (.refl _))

/-- A release where the mode is not LOCKED. -/
theorem State.release_serves (s : State) (c tenths : Nat) (h : s.channelMode c ≠ .locked) : s.Serves (s.release c tenths) := by
  by_cases hu : (s.channel c).state = .unlocked
  · rw [State.release_unlocked s c tenths hu]
    exact .refl s
  · rw [State.release_eq s c tenths hu]
    exact .logged (.setChannel c (.released s c tenths h)) _

theorem State.egress_serves (s : State) (c : Nat) (active : Bool) :
    s.Serves (if active then s.egressActive c else s.egressInactive c) := by
  have hlevel (b : Bool) : s.Serves (s.setChannel c { s.channel c with egress := b }) := .setChannel c (.carrying _ b)
  cases active
  · exact hlevel false
  · show s.Serves (s.egressActive c)
    unfold State.egressActive
    refine .ite (.refl s) ?_
    dsimp only
    split
    · exact hlevel true
    · exact (hlevel true).trans (State.release_serves _ c _ fun h => ‹¬_› (Or.inl h))

theorem runGatePulse_serves (args : List Byte) (s : State) : s.Serves (runGatePulse args s).2 := by
  rcases answer_inv [(decide (Config.channelCount ≤ numberOf (byteAt args 0)), .badArgument),
    (s.channelMode (numberOf (byteAt args 0)) == .locked, .state)] s
    (if (s.channel (numberOf (byteAt args 0))).state = .unlocked then s else s.baseReleaseOf (numberOf (byteAt args 0))) with
    h | ⟨hchecks, h⟩
  · rw [show (runGatePulse args s).2 = s from h]
    exact .refl s
  · rw [show (runGatePulse args s).2 = _ from h]
    simp only [List.forall_mem_cons] at hchecks
    exact .ite (.refl s) (State.release_serves s _ _ (by simpa using hchecks.2.1))

theorem State.releaseExpired_serves (s : State) (c : Nat) : s.Serves (s.releaseExpired c) := by
  have hexpired : s.Serves (s.channelExpired c) := by
    rw [State.channelExpired_eq]
    exact .setChannel c (.expiry _)
  have hhanded : s.Serves ((s.channelExpired c).handExpired c) :=
    hexpired.trans (.withCarried c fun n p => .ite (State.abandonPassage_serves _ n p _) (.refl _))
  unfold State.releaseExpired
  split
  exacts [hhanded, hhanded, hhanded, hexpired, hexpired, hexpired]

theorem State.heldOpenExpired_serves (s : State) (c : Nat) : s.Serves (s.heldOpenExpired c) := by
  have h := State.Serves.setChannel (s := s) c (.heldOpen (s.channel c))
  unfold State.heldOpenExpired
  dsimp only
  split
  case isTrue hs =>
    rw [if_pos hs] at h
    exact h.trans (State.append_only _ _).serves
  case isFalse hs =>
    rw [if_neg hs] at h
    exact h

theorem State.periodStart_serves (s : State) : s.Serves s.periodStart := by
  obtain ⟨hframe, hchannel⟩ := State.forEach_setChannel
    (s.setStrike { s.strike with duty := s.strike.nextDuty.getD s.strike.duty, nextDuty := none }) Channel.periodStart
    Config.channelCount
  unfold State.periodStart
  dsimp only
  generalize State.forEach Config.channelCount _ _ = u at *
  refine ⟨by rw [hframe]; rfl, fun c => ?_⟩
  rw [show ({ u with now := u.now + Config.pwmPeriod } : State).channel c = u.channel c from rfl, hchannel c]
  split
  exacts [.periodStart _, .refl _]

/-- A grant releases its channel where the mode is not LOCKED (R75). -/
theorem State.grantStation_serves (s : State) (n : Nat) (r : Request) (kind : PassageKind) (t : Option Nat)
    (res : Option Reservation) (passback : Bool) : s.Serves (s.grantStation n r kind t res passback) := by
  have hgate : s.Serves (s.grantGate n r.config.channel (s.releaseTime t)) := by
    refine ⟨s.grantGate_only _ _ _ .params rfl, fun c => ?_⟩
    rw [State.grantGate_channel]
    split
    · unfold State.grantedChannel
      split
      case isTrue h => exact (Channel.Serves.released s c _ h.1).trans (.carrying _ _)
      case isFalse => exact .carrying _ _
    · exact .refl _
  have hverdict := hgate.trans (State.writeVerdict_only _ n (.grant (s.releaseTime t)) t).serves
  unfold State.grantStation
  dsimp only
  split
  · exact (hverdict.trans (State.append_only _ _).serves).trans (State.setSlot_only _ _ _).serves
  · exact hverdict.trans (State.setSlot_only _ _ _).serves

theorem State.takeStation_serves (s : State) (type : StationType) {judge : State → Nat → Request → State}
    (h : ∀ n r, s.Serves (judge s n r)) : s.Serves (s.takeStation type judge) := by
  unfold State.takeStation
  split
  exacts [.ite (h _ _) (.refl s), .refl s]

theorem State.decideEntry_serves (s : State) (n : Nat) (r : Request) : s.Serves (s.decideEntry n r) := by
  unfold State.decideEntry
  dsimp only
  split
  exacts [(s.denyStation_only n _ _).serves, s.grantStation_serves n r _ _ _ _]

theorem State.decideExit_serves (s : State) (n : Nat) (r : Request) : s.Serves (s.decideExit n r) := by
  unfold State.decideExit
  dsimp only
  split
  exacts [(s.denyStation_only n _ _).serves, s.grantStation_serves n r _ _ _ _]

theorem State.decideZone_serves (s : State) (n : Nat) (r : Request) : s.Serves (s.decideZone n r) := by
  unfold State.decideZone
  dsimp only
  split
  exacts [(s.denyStation_only n _ _).serves, s.grantStation_serves n r _ _ _ _]

theorem State.windowDeadline_serves (s : State) (n : Nat) : s.Serves (s.windowDeadline n) := by
  unfold State.windowDeadline
  split
  exacts [.ite (.refl s) (s.abandonPassage_serves n _ _), .refl s]

theorem State.takeOffline_serves (s : State) (n : Nat) : s.Serves (s.takeOffline n) := by
  unfold State.takeOffline
  split
  exacts [s.abandonPassage_serves n _ _, (s.setSlot_only n _).serves]

theorem endByField_serves (args : List Byte) (s : State) {act : Nat → Passage → State} (h : ∀ n p, s.Serves (act n p)) :
    s.Serves (endByField args s act).2 := by
  unfold endByField
  dsimp only
  split
  · exact .refl s
  · split
    exacts [.refl s, h _ _]

end

/-! ### The channels moved by a change of an unlocked condition (R128 to R131) -/

section
variable {s b t u : State}

/-- A channel moved is UNLOCKED exactly in its new condition. -/
theorem State.channelMoved_unlocked (s b : State) (c : Nat) :
    (s.channelMoved b c).state = .unlocked ↔ b.unlockedCondition c = true := by
  rw [State.channelMoved_cases]
  dsimp only
  by_cases henters : b.unlockedCondition c = true ∧ (s.channel c).state ≠ .unlocked
  · rw [if_pos henters, State.driven_state]
    exact iff_of_true rfl henters.1
  rw [if_neg henters]
  by_cases hlocks : b.unlockedCondition c = false ∧ (s.channel c).state ≠ .unlocked ∧ b.channelMode c = .locked
  · rw [if_pos hlocks, hlocks.1]
    refine iff_of_false ?_ nofun
    dsimp only
    split
    exacts [nofun, hlocks.2.1]
  rw [if_neg hlocks]
  by_cases hleaves : (s.channel c).state = .unlocked ∧ b.unlockedCondition c = false
  · rw [if_pos hleaves, hleaves.2]
    refine iff_of_false ?_ nofun
    split <;> nofun
  · rw [if_neg hleaves]
    refine ⟨fun h => ?_, fun h => ?_⟩
    · by_contra hcond
      exact hleaves ⟨h, by simpa using hcond⟩
    · by_contra hstate
      exact henters ⟨h, hstate⟩

/-- A channel moved fits its state. -/
theorem State.channelMoved_lawful {c : Nat} (h : (s.channel c).lawful) (b : State) : (s.channelMoved b c).lawful := by
  have hpick := h.1
  rw [State.channelMoved_cases]
  dsimp only
  split
  · exact s.driven_lawful hpick ⟨rfl, rfl⟩
  split
  · obtain ⟨-, hlaw⟩ := h
    refine ⟨nofun, ?_⟩
    cases hs : (s.channel c).state <;> simp only [hs] at hlaw ⊢ <;> simp_all
  split
  case isTrue hleaves =>
    obtain ⟨-, hlaw⟩ := h
    rw [hleaves.1] at hlaw
    obtain ⟨-, hrelease, hheld⟩ := hlaw
    split
    case isTrue hgate => exact ⟨nofun, hgate, ⟨fun _ => hrelease, fun _ => rfl⟩, rfl⟩
    case isFalse hgate => exact ⟨nofun, by simpa using hgate, rfl, hrelease, hheld⟩
  · exact h

/-- A channel moved under the mode LOCKED is driven only in its unlocked condition. -/
theorem State.channelMoved_driven {c : Nat} (hmode : b.channelMode c = .locked) (h : (s.channelMoved b c).drive ≠ .off) :
    b.unlockedCondition c = true := by
  by_contra hcond
  have hfalse : b.unlockedCondition c = false := by simpa using hcond
  refine h ?_
  rw [State.channelMoved_cases]
  dsimp only
  rw [if_neg fun h => hcond h.1]
  by_cases hstate : (s.channel c).state = .unlocked
  · rw [if_neg fun h => h.2.1 hstate, if_pos ⟨hstate, hfalse⟩]
    split <;> rfl
  · rw [if_pos ⟨hfalse, hstate, hmode⟩]

/-- Under the mode LOCKED the unlocked condition is the latch's. -/
theorem State.unlockedCondition_locked {c : Nat} (hmode : s.channelMode c = .locked) :
    s.unlockedCondition c = true ↔ s.control.fireLatch = true ∧ s.fireSecure c = false := by
  simp [State.unlockedCondition, hmode]

/-- The channel stands in `t` as its conditions there say, but for a drive that was on without leave before. -/
def State.Settled (s t : State) (c : Nat) : Prop :=
  ((s.channel c).lawful → (t.channel c).lawful) ∧ ((t.channel c).state = .unlocked ↔ t.unlockedCondition c = true) ∧
    (t.channelMode c = .locked → (t.channel c).drive ≠ .off →
      t.unlockedCondition c = true ∨
        s.channelMode c = .locked ∧ (s.channel c).drive ≠ .off ∧ (s.channel c).state ≠ .unlocked)

/-- The channel is served within its state, and its conditions are what they were; while the part is held a phase that moves
moves no channel (R160). -/
def State.Serviced (s t : State) (c : Nat) : Prop :=
  (s.channel c).Serves (s.channelMode c = .locked) (t.channel c) ∧
    (c < 16 → t.channelMode c = s.channelMode c ∧
      (s.channelMode c = .locked → t.unlockedCondition c = s.unlockedCondition c) ∧
      (t.running = true → s.running = true ∧ t.unlockedCondition c = s.unlockedCondition c))

/-- What a step makes of the channels: each is served or stands as its new conditions say. -/
def State.Moves (s t : State) : Prop := ∀ c, s.Settled t c ∨ s.Serviced t c

theorem State.Moves.channelLaw (h : s.Moves t) (hs : s.channelLaw) : t.channelLaw := fun c =>
  (h c).elim (fun k => k.1 (hs c)) fun k => k.1.1 (hs c)

theorem State.Moves.unlockedLaw (h : s.Moves t) (hs : s.unlockedLaw) : t.unlockedLaw := by
  intro hrun c hc
  rcases h c with ⟨-, hstate, -⟩ | ⟨⟨-, hstate, -⟩, hcond⟩
  · exact hstate
  · obtain ⟨-, -, hsame⟩ := hcond hc
    obtain ⟨hran, hsame⟩ := hsame hrun
    rw [hsame]
    exact hstate.trans (hs hran c hc)

theorem State.Moves.lockedLaw (h : s.Moves t) (hs : s.lockedLaw) : t.lockedLaw := by
  intro c hc hmode hdrive
  rw [← State.unlockedCondition_locked hmode]
  rcases h c with ⟨-, hstate, hdriven⟩ | ⟨⟨-, hstate, hoff⟩, hcond⟩
  · rcases hdriven hmode hdrive with hcond | ⟨hwas, hon, hshut⟩
    · exact ⟨hstate.2 hcond, hcond⟩
    · exact absurd (hs c hc hwas hon).1 hshut
  · obtain ⟨hsame, hlocked, -⟩ := hcond hc
    have hwas : s.channelMode c = .locked := hsame ▸ hmode
    rw [hlocked hwas, State.unlockedCondition_locked hwas, hstate]
    exact hs c hc hwas (mt (hoff hwas) hdrive)

/-- Channels moved from `u`, whose channels serve those of `s`. -/
theorem State.settled_moved {c : Nat} {locked : Prop} (hu : (s.channel c).Serves locked (u.channel c))
    (ht : t.channel c = u.channelMoved b c) (hcond : b.unlockedCondition c = t.unlockedCondition c)
    (hmode : b.channelMode c = t.channelMode c) : s.Settled t c := by
  rw [State.Settled, ht, ← hcond, ← hmode]
  exact ⟨fun h => State.channelMoved_lawful (hu.1 h) b, State.channelMoved_unlocked u b c,
    fun hmode hdrive => .inl (State.channelMoved_driven hmode hdrive)⟩

/-- Channels served, where the conditions are those of the parameters, the clock and the latch as they were. -/
theorem State.Serves.moves (h : s.Serves t) (hclock : t.clock = s.clock)
    (hlatch : t.control.fireLatch = s.control.fireLatch) (hrun : t.running = true → s.running = true) : s.Moves t := fun c =>
  have hcond := State.unlockedCondition_of h.1 hclock hlatch c
  .inr ⟨h.2 c, fun _ => ⟨State.channelMode_congr h.1 c, fun _ => hcond, fun hr => ⟨hrun hr, hcond⟩⟩⟩

theorem State.running_congr (h : t.power = s.power) : t.running = s.running := by
  unfold State.running
  rw [h]

/-- What is written elsewhere leaves channels and conditions as they are. -/
theorem Only.moves {ps : List Part} (h : Only ps s t) (hchannels : Part.channels.isIn ps = false := by rfl)
    (hparams : Part.params.isIn ps = false := by rfl) (hclock : Part.clock.isIn ps = false := by rfl)
    (hcontrol : Part.control.isIn ps = false := by rfl) (hpower : Part.power.isIn ps = false := by rfl) : s.Moves t :=
  (h.serves hchannels hparams).moves (h .clock hclock) (congrArg Control.fireLatch (h .control hcontrol))
    (State.running_congr (h .power hpower)).le

/-- Channels served by an operation that writes no parameter, clock, control or power. -/
theorem State.Serves.moves_only {ps : List Part} (h : s.Serves t) (ho : Only ps s t) (hclock : Part.clock.isIn ps = false := by rfl)
    (hcontrol : Part.control.isIn ps = false := by rfl) (hpower : Part.power.isIn ps = false := by rfl) : s.Moves t :=
  h.moves (ho .clock hclock) (congrArg Control.fireLatch (ho .control hcontrol)) (State.running_congr (ho .power hpower)).le

/-! ### The fire latch (R131) -/

theorem State.fireChannel_channel (hlatch : u.control.fireLatch = true) {c : Nat} (hsecure : u.fireSecure c = false) (d : Nat) :
    (State.fireChannel c u).channel d = (u.moveChannel c).channel d := by
  have hcond : u.unlockedCondition c = true := by simp [State.unlockedCondition, hlatch, hsecure]
  unfold State.fireChannel State.moveChannel State.enters State.locks
  by_cases hstate : (u.channel c).state = .unlocked
  · simp [hstate, hcond]
  · have hhand := State.channel_eq_of_channels ((u.enterUnlocked c).handWindow_only c .channels rfl) d
    simp [hstate, hcond, hsecure, hhand]

/-- The channels that are not fire-secure are moved, whatever they carry. -/
theorem State.fireChannels_channel (b : State) (hlatch : b.control.fireLatch = true) (n c : Nat) :
    (b.forEach n State.fireChannel).channel c =
      if c < n ∧ b.fireSecure c = false then b.channelMoved b c else b.channel c := by
  induction n generalizing c with
  | zero => rfl
  | succ n ih =>
    have ho : Only [.channels] b (b.forEach n State.fireChannel) :=
      .forEach (fun c s => .ite (s.enterUnlocked_only c) .refl) n b
    rw [State.forEach_succ]
    generalize b.forEach n State.fireChannel = u at *
    have hparams : u.params = b.params := ho .params rfl
    have hcontrol : u.control = b.control := ho .control rfl
    have hnow : u.now = b.now := ho .now rfl
    have hsecure (d : Nat) : u.fireSecure d = b.fireSecure d := by
      unfold State.fireSecure State.modeByte State.param
      rw [hparams]
    by_cases hs : b.fireSecure n = false
    · have hx : b.channel n = u.channel n := by rw [ih, if_neg fun h => Nat.lt_irrefl n h.1]
      have hcond := State.unlockedCondition_of (u := u) (b := b) hparams (ho .clock rfl) (by rw [hcontrol]) n
      have hmoved : u.channelMoved u n = b.channelMoved b n := by
        refine State.channelMoved_eq u u b n ?_ ?_ hcond hx (State.driven_congr hparams hnow) ?_
        · simp only [State.enters, hcond, hx]
        · simp only [State.locks, hcond, hx, State.channelMode_congr hparams]
        · unfold State.inTime State.heldOpenTime State.param
          rw [hparams, hnow]
      rw [State.fireChannel_channel (by rw [hcontrol]; exact hlatch) ((hsecure n).trans hs), (u.moveChannel_eq n).2.1 c, hmoved, ih]
      by_cases hc : c = n
      · rw [if_pos hc, hc, if_pos ⟨Nat.lt_succ_self n, hs⟩]
      · rw [if_neg hc]
        exact if_congr (and_congr_left fun _ => by omega) rfl rfl
    · have hsame : State.fireChannel n u = u := by
        unfold State.fireChannel
        rw [hsecure, if_neg]
        simp [hs]
      rw [hsame, ih]
      refine if_congr ⟨fun h => ⟨by omega, h.2⟩, fun h => ⟨?_, h.2⟩⟩ rfl rfl
      rcases Nat.lt_succ_iff_lt_or_eq.1 h.1 with hlt | heq
      exacts [hlt, absurd (heq ▸ h.2) hs]

theorem State.fireStation_serves (n : Nat) (s : State) : s.Serves (State.fireStation n s) := by
  unfold State.fireStation
  split
  exacts [s.abandonPassage_serves n _ _, .refl s]

theorem State.Serves.forEach {f : Nat → State → State} (h : ∀ (n : Nat) (s : State), s.Serves (f n s)) (n : Nat) (s : State) :
    s.Serves (s.forEach n f) := by
  induction n with
  | zero => exact .refl s
  | succ n ih =>
    rw [State.forEach_succ]
    exact ih.trans (h n _)

theorem State.fireEngine_serves (s : State) : s.Serves s.fireEngine :=
  (Only.forEach (fun n s => s.fireCar_only n) _ s).serves.trans (.forEach State.fireStation_serves _ _)

/-- The latch's setting moves the channels that are not fire-secure (R131, R158). -/
theorem State.fireActive_moves (s : State) : s.Moves s.fireActive := by
  unfold State.fireActive
  split
  · exact Only.moves (ps := []) .refl
  dsimp only
  generalize hv : (s.setControl { s.control with fireLive := true, fireLatch := true }).append .fireOn = v
  have ho : Only [.control] s v := hv ▸ s.setControl_append_only _ _
  split
  case isTrue hlatch =>
    refine ho.serves.moves (ho .clock rfl) ?_ (State.running_congr (ho .power rfl)).le
    rw [← hv, hlatch]
    rfl
  · have hengine := v.fireEngine_serves
    have honly := v.fireEngine_only
    generalize v.fireEngine = u at *
    have hserves : s.Serves u := ho.serves.trans hengine
    have hlatch : u.control.fireLatch = true := by rw [honly .control rfl, ← hv]; rfl
    have hafter := State.fireChannels_only (s := u)
    have hchannel := u.fireChannels_channel hlatch Config.channelCount
    generalize u.forEach Config.channelCount State.fireChannel = t at *
    have hparams : t.params = u.params := hafter .params rfl
    have hcond := State.unlockedCondition_of (u := t) (b := u) hparams (hafter .clock rfl) (by rw [hafter .control rfl])
    have hmode := State.channelMode_congr hparams
    intro c
    by_cases hmoved : c < Config.channelCount ∧ u.fireSecure c = false
    · exact .inl (State.settled_moved (hserves.2 c) ((hchannel c).trans (if_pos hmoved)) (hcond c).symm (hmode c).symm)
    · refine .inr ⟨?_, fun hc => ?_⟩
      · rw [hchannel c, if_neg hmoved]
        exact hserves.2 c
      · have hsecure : u.fireSecure c = true := by simpa [hc, Config.channelCount] using hmoved
        have hsame : t.unlockedCondition c = s.unlockedCondition c := by
          have hs : s.fireSecure c = u.fireSecure c := by
            unfold State.fireSecure State.modeByte State.param
            rw [hserves.1]
          rw [hcond c, State.unlockedCondition, State.unlockedCondition, hs, hsecure, State.channelMode_congr hserves.1,
            show u.clock = s.clock from (honly .clock rfl).trans (ho .clock rfl)]
          simp
        refine ⟨(hmode c).trans (State.channelMode_congr hserves.1 c), fun _ => hsame, fun hr => ⟨?_, hsame⟩⟩
        rwa [State.running_congr ((hafter .power rfl).trans ((honly .power rfl).trans (ho .power rfl)))] at hr

/-- The latch's clearing: a channel whose condition ends with it is moved (R129, R131). -/
theorem runFireClear_moves (s : State) : s.Moves (runFireClear s).2 := by
  rw [runFireClear_eq]
  split
  · exact Only.moves (ps := []) .refl
  split
  · exact Only.moves (ps := []) .refl
  generalize hb : ({ s with control := { s.control with fireLatch := false } } : State) = b
  have hbchannel (c : Nat) : b.channel c = s.channel c := by rw [← hb]; rfl
  have hbparams : b.params = s.params := by rw [← hb]
  obtain ⟨hframe, hchannel⟩ := State.forEach_channels (b.append .fireCleared) b.clearedChannel
    (fun c u hu => State.clearChannel_eq c u b hu) 16
  dsimp only
  generalize (b.append .fireCleared).forEach 16 State.clearChannel = t at *
  have hcond (c : Nat) : t.unlockedCondition c = b.unlockedCondition c :=
    State.unlockedCondition_of (by rw [hframe]; rfl) (by rw [hframe]; rfl) (by rw [hframe]; rfl) c
  have hmode (c : Nat) : t.channelMode c = s.channelMode c := State.channelMode_congr (by rw [hframe]; exact hbparams) c
  have hpower : t.power = s.power := by rw [hframe, ← hb]; rfl
  intro c
  by_cases hc : c < 16
  · have ht : t.channel c = b.clearedChannel c (s.channel c) := by
      rw [hchannel, if_pos hc, show (b.append .fireCleared).channel c = b.channel c from rfl, hbchannel]
    by_cases hleaves : (s.channel c).state = .unlocked ∧ b.unlockedCondition c = false
    · refine .inl (State.settled_moved (u := b) (b := b) (locked := True) (by rw [hbchannel]; exact .refl _) ?_ (hcond c).symm
        ((State.channelMode_congr hbparams c).trans (hmode c).symm))
      rw [ht, State.channelMoved_cases, hbchannel, State.clearedChannel, if_pos hleaves]
      refine Eq.symm ((if_neg fun h => h.2 hleaves.1).trans ((if_neg fun h => h.2.1 hleaves.1).trans ?_))
      exact if_pos hleaves
    · have hsame : t.channel c = s.channel c := by rw [ht, State.clearedChannel, if_neg hleaves]
      by_cases hstate : (s.channel c).state = .unlocked
      · have hb : t.unlockedCondition c = true := by
          rw [hcond]
          simpa using fun h => hleaves ⟨hstate, h⟩
        exact .inl ⟨by rw [hsame]; exact id, by rw [hsame]; exact iff_of_true hstate hb, fun _ _ => .inl hb⟩
      · cases hcb : b.unlockedCondition c with
        | false =>
          refine .inl ⟨by rw [hsame]; exact id, by rw [hsame, hcond, hcb]; exact iff_of_false hstate nofun, fun hm hd => .inr ?_⟩
          exact ⟨(hmode c).symm.trans hm, hsame ▸ hd, hstate⟩
        | true =>
          have hs : s.unlockedCondition c = true := by
            have hsecure : b.fireSecure c = s.fireSecure c := by rw [← hb]; rfl
            rw [← hb] at hcb
            revert hcb
            simp only [State.unlockedCondition, Bool.or_eq_true]
            rintro (h | h)
            · exact .inl h
            · exact nomatch h
          have hboth : t.unlockedCondition c = s.unlockedCondition c := (hcond c).trans (hcb.trans hs.symm)
          refine .inr ⟨by rw [hsame]; exact .refl _, fun _ => ⟨hmode c, fun _ => hboth, fun hr => ⟨?_, hboth⟩⟩⟩
          rwa [State.running_congr hpower] at hr
  · refine .inr ⟨?_, fun h => absurd h hc⟩
    rw [hchannel, if_neg hc, show (b.append .fireCleared).channel c = b.channel c from rfl, hbchannel]
    exact .refl _

/-! ### The mode bytes (R128 to R130) -/

/-- What a list of moves makes of the channels, from a state `b` with the channels of `s` (R128 to R130). -/
theorem State.moves_moves {cs : List Nat} (hn : cs.Nodup) (hchannels : b.channels = s.channels)
    (hothers : ∀ c < 16, c ∉ cs → b.channelMode c = s.channelMode c ∧
      (s.channelMode c = .locked → b.unlockedCondition c = s.unlockedCondition c) ∧
      (b.running = true → s.running = true ∧ b.unlockedCondition c = s.unlockedCondition c)) :
    s.Moves (cs.foldl (fun u c => u.moveChannel c) b) := by
  obtain ⟨hframe, hchannel, -⟩ := b.moves_eq cs hn
  generalize cs.foldl (fun u c => u.moveChannel c) b = t at *
  have hsame := State.channel_eq_of_channels hchannels
  have hparams : t.params = b.params := by rw [hframe]
  have hcond (c : Nat) : t.unlockedCondition c = b.unlockedCondition c :=
    State.unlockedCondition_of hparams (by rw [hframe]) (by rw [hframe]) c
  have hmode (c : Nat) : t.channelMode c = b.channelMode c := State.channelMode_congr hparams c
  have hrun : t.running = b.running := State.running_congr (by rw [hframe])
  intro c
  by_cases hc : c ∈ cs
  · exact .inl (State.settled_moved (u := b) (b := b) (locked := True) (by rw [hsame]; exact .refl _)
      ((hchannel c).trans (if_pos hc)) (hcond c).symm (hmode c).symm)
  · refine .inr ⟨by rw [hchannel, if_neg hc, hsame]; exact .refl _, fun hlt => ?_⟩
    rw [hmode, hcond, hrun]
    exact hothers c hlt hc

theorem State.storeWord_moves_channels (s : State) (w : Nat) (v : Word) : s.Moves (s.storeWord w v) := by
  generalize hb : s.setParam w (storedWord w v) = b
  have hbyte (c : Nat) (hc : c < 16) (hsame : b.modeByte c = s.modeByte c) :
      b.channelMode c = s.channelMode c ∧ (s.channelMode c = .locked → b.unlockedCondition c = s.unlockedCondition c) ∧
      (b.running = true → s.running = true ∧ b.unlockedCondition c = s.unlockedCondition c) := by
    have hmode : b.channelMode c = s.channelMode c := by rw [State.channelMode, hsame]; rfl
    have hcond : b.unlockedCondition c = s.unlockedCondition c := by
      rw [State.unlockedCondition, hmode, State.fireSecure, hsame, ← hb]
      rfl
    exact ⟨hmode, fun _ => hcond, fun h => ⟨by rw [← hb] at h; exact h, hcond⟩⟩
  have hother (c : Nat) (hword : 47 + c / 4 ≠ w) : b.modeByte c = s.modeByte c := by
    unfold State.modeByte
    rw [← hb, State.setParam_param, if_neg hword]
  by_cases hw : 47 ≤ w ∧ w ≤ 50
  · rw [State.storeWord_modes s v hw.1 hw.2, hb]
    refine State.moves_moves (List.nodup_range.filter _) (by rw [← hb]; rfl) fun c hc hout => hbyte c hc ?_
    rw [List.mem_filter, not_and, State.rewritten] at hout
    have hout := hout (List.mem_range.2 hc)
    by_cases hword : c / 4 = w - 47
    · simpa [hword] using hout
    · exact hother c (by omega)
  · rw [State.storeWord_plain s v hw, hb]
    refine State.moves_moves (cs := []) List.nodup_nil (by rw [← hb]; rfl) fun c hc _ => hbyte c hc (hother c (by omega))

/-! ### The site phase (R29, R31) -/

/-- A clock that moves without the site opening or closing moves no channel. -/
theorem Only.moves_clock (h : Only [.clock, .roster] s t) (hphase : t.clock.phase = .opened ↔ s.clock.phase = .opened) :
    s.Moves t := by
  have hparams : t.params = s.params := h .params rfl
  have hcond (c : Nat) : t.unlockedCondition c = s.unlockedCondition c := by
    have hopen : (t.clock.phase == .opened) = (s.clock.phase == .opened) := by
      rw [Bool.eq_iff_iff, beq_iff_eq, beq_iff_eq]
      exact hphase
    have hsecure : t.fireSecure c = s.fireSecure c := by
      unfold State.fireSecure State.modeByte State.param
      rw [hparams]
    rw [State.unlockedCondition, State.unlockedCondition, State.channelMode_congr hparams, hopen, hsecure,
      show t.control = s.control from h .control rfl]
  exact fun c => .inr ⟨h.serves.2 c, fun _ => ⟨State.channelMode_congr hparams c, fun _ => hcond c,
    fun hr => ⟨by rwa [State.running_congr (h .power rfl)] at hr, hcond c⟩⟩⟩

/-- The SCHEDULE channels follow the phase, and the condition of no other channel is changed by it. -/
theorem State.phase_moves (h : Only [.clock, .roster] s b) : s.Moves b.channelsFollowPhase := by
  have hparams : b.params = s.params := h .params rfl
  rw [State.channelsFollowPhase_eq]
  refine State.moves_moves (List.nodup_range.filter _) (h .channels rfl) fun c hc hout => ?_
  have hmode := State.channelMode_congr hparams c
  have hcond (hne : s.channelMode c ≠ .schedule) : b.unlockedCondition c = s.unlockedCondition c := by
    have hsecure : b.fireSecure c = s.fireSecure c := by
      unfold State.fireSecure State.modeByte State.param
      rw [hparams]
    rw [State.unlockedCondition, State.unlockedCondition, hmode, hsecure, show b.control = s.control from h .control rfl,
      beq_eq_false_iff_ne.2 hne, Bool.false_and, Bool.false_and]
  refine ⟨hmode, fun hl => hcond (by rw [hl]; nofun), fun hr => ?_⟩
  have hrun : s.running = true := by rwa [State.running_congr (h .power rfl)] at hr
  refine ⟨hrun, hcond fun hs => hout ?_⟩
  have hrst : b.power.rst = false := by
    have hboth : (b.power.main && !b.power.rst) = true := hr
    rw [Bool.and_eq_true, Bool.not_eq_true'] at hboth
    exact hboth.2
  exact List.mem_filter.2 ⟨List.mem_range.2 hc, by simp [State.followsPhase, hrst, hmode, hs]⟩

theorem State.evaluatePhase_moves (h : Only [.clock] s b) (hphase : b.clock.phase = s.clock.phase) (tick : Bool) :
    s.Moves (b.evaluatePhase tick) := by
  have hsame : s.Moves b := h.mono.moves_clock (by rw [hphase])
  have hclose : s.Moves b.closeEvent :=
    State.phase_moves ((((h.trans (State.setPhase_only _ _) (rs := [.clock])).trans (State.append_only _ _) (rs := [.clock])).trans
      (State.rosterClose_only _ b.grace)))
  have hopen : s.Moves b.openEvent :=
    State.phase_moves ((((h.trans (State.setPhase_only _ _) (rs := [.clock])).trans (State.append_only _ _) (rs := [.clock])).trans
      (State.setRoster_only _ _)))
  have htick (g : Nat) (hp : b.clock.phase = .closing g) : s.Moves (b.closingTick g) := by
    refine ((h.trans (State.setPhase_only _ _) (rs := [.clock])).trans (State.rosterTick_only _)).moves_clock ?_
    have hclock : (b.closingTick g).clock = (b.setPhase (if g ≤ 1 then .closed else .closing (g - 1))).clock :=
      State.rosterTick_only _ .clock rfl
    show (b.closingTick g).clock.phase = .opened ↔ _
    rw [hclock, ← hphase, hp]
    show (if g ≤ 1 then Phase.closed else .closing (g - 1)) = .opened ↔ _
    split <;> simp
  unfold State.evaluatePhase
  split
  case h_4 _ _ g hp _ =>
    split
    exacts [htick g hp, hsame]
  exacts [hsame, hclose, hopen, hopen, hsame]

theorem State.minuteTick_moves (s : State) : s.Moves s.minuteTick := by
  unfold State.minuteTick
  split
  · dsimp only
    split
    · refine State.evaluatePhase_moves (s.setClock_only _) ?_ true
      rfl
    · refine (s.setClock_only _).mono.moves_clock ?_
      exact Iff.rfl
  · exact Only.moves (ps := []) .refl

theorem State.secondTick_moves (s : State) : s.Moves s.secondTick := by
  unfold State.secondTick
  split
  · split
    · refine (s.setClock_only _).mono.moves_clock ?_
      exact Iff.rfl
    · exact s.minuteTick_moves
  · exact Only.moves (ps := []) .refl

theorem runSetClock_moves (args : List Byte) (s : State) : s.Moves (runSetClock args s).2 := by
  rw [runSetClock_eq]
  split
  · exact Only.moves (ps := []) .refl
  · have ho : Only [.clock] s ((s.setClock { s.clock with minute := wordAt args 0, seconds := 0 }).append
        (.clockSet s.clock.minute)) := (s.setClock_only _).trans (State.append_only _ _)
    exact State.evaluatePhase_moves ho rfl false

/-! ### Restarts (R118) -/

/-- The channels place themselves by their conditions. -/
theorem State.restart_moves (hchannels : u.channels = s.channels) (cause : ResetCause) (l : Lines) (f : Bool) :
    s.Moves (u.restart cause l f) := by
  obtain ⟨-, -, hchannel⟩ := u.restart_eq cause l f
  generalize u.restart cause l f = t at *
  intro c
  by_cases hc : c < 16
  · have ht := (hchannel c).trans (if_pos hc)
    rw [State.placed] at ht
    refine .inl ⟨fun _ => ?_, ?_, fun _ hdrive => .inl ?_⟩
    · rw [ht]
      cases hcond : t.unlockedCondition c
      · cases hgate : l.gate.getLsbD c
        · exact ⟨nofun, rfl, rfl, rfl, rfl⟩
        · exact ⟨nofun, rfl, rfl, rfl, rfl⟩
      · exact ⟨fun _ => rfl, nofun, rfl, rfl⟩
    · rw [ht]
      cases t.unlockedCondition c
      · cases l.gate.getLsbD c <;> exact iff_of_false nofun nofun
      · exact iff_of_true rfl rfl
    · by_contra hcond
      rw [ht] at hdrive
      exact hdrive (if_neg hcond)
  · refine .inr ⟨?_, fun h => absurd h hc⟩
    rw [hchannel, if_neg hc, State.channel_eq_of_channels hchannels]
    exact .refl _

/-! ### Every step (R119, R118 to R135) -/

theorem State.closed_latch (s : State) (cause : ModeCause) : (s.closed cause).control.fireLatch = s.control.fireLatch := by
  show (if s.blockGood then s.control else { s.control with mode := .fallback }).fireLatch = _
  split <;> rfl

theorem runCommand_moves (c : Command) (l : Lines) (args : List Byte) (s : State) : s.Moves (runCommand c l args s).2 := by
  have ho := runCommand_only c l args s
  have control {ps : List Part} (ho : Only ps s (runCommand c l args s).2)
      (hlatch : (runCommand c l args s).2.control.fireLatch = s.control.fireLatch)
      (hch : Part.channels.isIn ps = false := by rfl) (hpa : Part.params.isIn ps = false := by rfl)
      (hcl : Part.clock.isIn ps = false := by rfl) (hpo : Part.power.isIn ps = false := by rfl) :
      s.Moves (runCommand c l args s).2 :=
    (ho.serves hch hpa).moves (ho .clock hcl) hlatch (State.running_congr (ho .power hpo)).le
  cases c
  case setClock => exact runSetClock_moves args s
  case paramWrite =>
    show s.Moves (runParamWrite l.svckey args s).2
    rcases runParamWrite_cases l.svckey args s with h | ⟨-, -, -, h⟩
    · rw [h]
      exact Only.moves (ps := []) .refl
    · rw [h]
      exact s.storeWord_moves_channels _ _
  case gatePulse => exact (runGatePulse_serves args s).moves_only ho
  case fireClear => exact runFireClear_moves s
  case passed => exact (endByField_serves args s fun n p => s.completePassage_serves n p).moves_only ho
  case noPassage => exact (endByField_serves args s fun n p => s.abandonPassage_serves n p _).moves_only ho
  case stationOffline =>
    have hserves : s.Serves (runCommand .stationOffline l args s).2 := by
      show s.Serves (runStationOffline args s).2
      rcases answer_inv [(decide (Config.stationCount ≤ numberOf (byteAt args 0)), .badArgument),
        ((s.station (numberOf (byteAt args 0))).state == .offline, .state)] s (s.takeOffline (numberOf (byteAt args 0))) with
        h | ⟨-, h⟩
      · rw [show (runStationOffline args s).2 = s from h]
        exact .refl s
      · rw [show (runStationOffline args s).2 = _ from h]
        exact s.takeOffline_serves _
    exact hserves.moves_only ho
  case deviceReset => exact State.restart_moves (s := s) (u := s.warmStart s.power) rfl .command l false
  case paramClose =>
    refine control ho ?_
    show (runParamClose s).2.control.fireLatch = _
    unfold runParamClose
    split
    · rfl
    · show (s.closeWindow .close).control.fireLatch = _
      rw [State.closeWindow_eq]
      exact s.closed_latch .close
  case fallbackEnter =>
    refine control ho ?_
    rw [show (runCommand .fallbackEnter l args s).2.control = _ from State.enterFallback_control .command]
  case fallbackRelease =>
    refine control ho ?_
    rcases answer_inv [(s.control.mode == .normal || s.window.isSome, .state), (s.control.tableFault, .tableFault),
      (!s.blockGood, .sumBad)] s ((s.setControl { s.control with mode := .normal }).append (.mode .release .normal)) with
      h | ⟨-, h⟩
    · rw [show (runCommand .fallbackRelease l args s).2 = s from h]
    · rw [show (runCommand .fallbackRelease l args s).2 = _ from h]
      rfl
  all_goals exact ho.moves

theorem runEvent_moves (i : Instr) (s : State) : s.Moves (runEvent i s) := by
  have ho := runEvent_only i s
  have control {ps : List Part} (ho : Only ps s (runEvent i s))
      (hlatch : (runEvent i s).control.fireLatch = s.control.fireLatch)
      (hch : Part.channels.isIn ps = false := by rfl) (hpa : Part.params.isIn ps = false := by rfl)
      (hcl : Part.clock.isIn ps = false := by rfl) (hpo : Part.power.isIn ps = false := by rfl) : s.Moves (runEvent i s) :=
    (ho.serves hch hpa).moves (ho .clock hcl) hlatch (State.running_congr (ho .power hpo)).le
  have power (ho : Only [.power] s (runEvent i s)) (hrun : (runEvent i s).running = true → s.running = true) :
      s.Moves (runEvent i s) := ho.serves.moves (ho .clock rfl) (by rw [ho .control rfl]) hrun
  have serves {t : State} (c : Bool) (h : s.Serves t) : s.Serves (if c = true then t else s) := .ite h (.refl s)
  cases i
  case gateContactOpen c => exact (State.Serves.ite (.refl s) (s.gateOpened_serves c)).moves_only ho
  case gateContactClose c => exact (State.Serves.ite (s.gateClosed_serves c) (.refl s)).moves_only ho
  case egressRequest c active => exact (s.egress_serves c active).moves_only ho
  case fireInputActive => exact s.fireActive_moves
  case fireInputInactive =>
    exact control ho (by rw [show (runEvent .fireInputInactive s).control = _ from State.fireInactive_control])
  case rstAssert =>
    refine power ho fun h => ?_
    have hrst : (s.power.main && !true) = true := h
    rw [Bool.not_true, Bool.and_false] at hrst
    exact nomatch hrst
  case mainPowerLoss =>
    refine power ho fun h => ?_
    revert h
    show s.powerLost.running = true → _
    unfold State.powerLost
    split
    · exact fun h => nomatch (show (false && !s.power.rst) = true from h)
    · exact id
  case vbatBelowHoldingLevel =>
    refine power ho fun h => ?_
    revert h
    show s.retentionLost.running = true → _
    unfold State.retentionLost
    split <;> exact id
  case secondTick => exact s.secondTick_moves
  case minuteTick => exact s.minuteTick_moves
  case entryDecision => exact (s.takeStation_serves .entry s.decideEntry_serves).moves_only ho
  case exitDecision => exact (s.takeStation_serves .exit s.decideExit_serves).moves_only ho
  case zoneDecision => exact (s.takeStation_serves .zone s.decideZone_serves).moves_only ho
  case releaseTimerExpiry c => exact (State.Serves.ite (s.releaseExpired_serves c) (.refl s)).moves_only ho
  case heldOpenTimerExpiry c => exact (State.Serves.ite (s.heldOpenExpired_serves c) (.refl s)).moves_only ho
  case pickTimerExpiry c => exact (State.Serves.setChannel c (.pickOver _)).moves_only ho
  case passageWindowDeadline n => exact (s.windowDeadline_serves n).moves_only ho
  case pwmPeriodStart => exact s.periodStart_serves.moves_only ho
  case editWindowExpiry =>
    refine control ho ?_
    show s.windowExpired.control.fireLatch = _
    unfold State.windowExpired
    split
    · rfl
    · rw [State.closeWindow_eq]
      exact s.closed_latch .expiry
  case integritySweep =>
    refine control ho ?_
    show s.sweepBlock.control.fireLatch = _
    rw [State.sweepBlock_eq]
    split
    · rfl
    split
    · rfl
    · rw [State.logged_frame]
  case coldReset l b => exact State.restart_moves (s := s) (u := s.coldStart) rfl .cold l !b
  case retentionReset l b =>
    show s.Moves (s.powerReturns l b)
    rw [State.powerReturns_eq]
    split
    · exact State.restart_moves (s := s) (u := s.warmStart _) rfl .retention l !b
    · exact State.restart_moves (s := s) (u := s.coldStart) rfl .cold l !b
  case pinReset l =>
    show s.Moves (s.pinReset l)
    rw [State.pinReset_eq]
    split
    · exact State.restart_moves (s := s) (u := s.warmStart _) rfl .pin l false
    case isFalse hmain =>
      refine (s.setPower_only _).serves.moves rfl rfl fun h => ?_
      simp [State.running, State.setPower, hmain] at h
  all_goals exact ho.moves

/-- A law that every such move keeps, and that the port engines' record is no part of, is kept by every step. -/
theorem exec_of_moves {P : State → Prop} (h : ∀ s t : State, s.Moves t → P s → P t) (i : Instr) (s t : State) (hs : P s)
    (hexec : exec i s = .next t) : P t := by
  obtain ⟨u, htook, hengine⟩ := exec_took i s t hexec
  refine h u t hengine.1.moves ?_
  cases htook with
  | idle => exact hs
  | command c l args => exact h _ _ (runCommand_moves c l args s) hs
  | read c bytes m hr =>
    exact h _ _ ((endRead_only c bytes m s).moves (by cases c <;> first | rfl | exact nomatch hr)
      (by cases c <;> first | rfl | exact nomatch hr) (by cases c <;> first | rfl | exact nomatch hr)
      (by cases c <;> first | rfl | exact nomatch hr) (by cases c <;> rfl)) hs
  | event => exact h _ _ (runEvent_moves i s) hs

/-- Settles O51: every step serves the channels or moves them to their new conditions. -/
theorem unlockedExactlyInTheUnlockedCondition : Obligations.UnlockedExactlyInTheUnlockedCondition :=
  ⟨exec_of_moves fun _ _ h => h.unlockedLaw, exec_of_moves fun _ _ h => h.lockedLaw⟩

end

end Sys2Proof.Machine
end

section
/-! What every step keeps of the passages that channels carry (R61, R118, R132), and of the hold duty (R136). -/

namespace Sys2Proof.Machine

set_option Elab.async false -- one thread for the file, as in the tests: a thread for each theorem reaches the memory limit

/-! ### The passages carried -/

section
variable {s t u : State} {n : Nat} {named : Prop}

/-- A station whose passage is carried exists; and, where the law is that of names too, what a channel carries is in flight
and names it, and no request waits that names a channel out of range. -/
def State.flightLaw (named : Prop) (s : State) : Prop :=
  (∀ c m, (s.channel c).carried = some m → m < 64) ∧ (named → s.carriedLaw ∧ s.rangeLaw)

/-- A channel carries nothing new, what it carries flies on, and no request out of range is new. -/
theorem State.flightLaw_of
    (hcarried : ∀ c m, (t.channel c).carried = some m → (s.channel c).carried = some m ∧ (named →
      ∀ p, (s.station m).state = .passage p → ∃ q, (t.station m).state = .passage q ∧ q.channel = p.channel))
    (hpending : ∀ m r, (t.station m).state = .pending r → (s.station m).state = .pending r ∨ ∀ c ∈ r.config.channel, c < 16)
    (hs : s.flightLaw named) : t.flightLaw named := by
  obtain ⟨hexists, hnames⟩ := hs
  refine ⟨fun c m hc => hexists c m (hcarried c m hc).1, fun hnamed => ?_⟩
  obtain ⟨hfly, hrange, hin⟩ := hnames hnamed
  refine ⟨fun c m hc => ?_, fun c hc => ?_, fun m r hr => ?_⟩
  · obtain ⟨hwas, hon⟩ := hcarried c m hc
    obtain ⟨hm, p, hp, hchannel⟩ := hfly c m hwas
    obtain ⟨q, hq, hsame⟩ := hon hnamed p hp
    exact ⟨hm, q, hq, hsame.trans hchannel⟩
  · cases hcarry : (t.channel c).carried with
    | none => rfl
    | some m =>
      have hwas := (hcarried c m hcarry).1
      rw [hrange c hc] at hwas
      exact nomatch hwas
  · rcases hpending m r hr with hwas | hr
    exacts [hin m r hwas, hr]

theorem State.flightLaw_congr (hchannels : ∀ c, (t.channel c).carried = (s.channel c).carried)
    (hstations : ∀ m, (t.station m).state = (s.station m).state) (hs : s.flightLaw named) : t.flightLaw named :=
  State.flightLaw_of (fun c m h => ⟨(hchannels c).symm.trans h, fun _ p hp => ⟨p, (hstations m).trans hp, rfl⟩⟩)
    (fun m _ h => .inl ((hstations m).symm.trans h)) hs

theorem State.station_eq_of_stations (h : t.stations = s.stations) (m : Nat) : t.station m = s.station m := by
  unfold State.station
  rw [h]

theorem flightLaw_reads : Reads (State.flightLaw named) [.channels, .stations] := fun s t h =>
  State.flightLaw_congr (fun c => by rw [State.channel_eq_of_channels (h .channels rfl)])
    (fun m => by rw [State.station_eq_of_stations (h .stations rfl)])

theorem Only.flies {ps : List Part} (h : Only ps s t) (hs : s.flightLaw named)
    (hps : meets [.channels, .stations] ps = false := by rfl) : t.flightLaw named := h.keeps flightLaw_reads hps hs

/-! ### Channels that carry what they carried -/

theorem State.setChannel_flightLaw (hs : s.flightLaw named) {c : Nat} {x : Channel} (hx : x.carried = (s.channel c).carried) :
    (s.setChannel c x).flightLaw named := by
  refine State.flightLaw_congr (s := s) (fun d => ?_) (fun _ => rfl) hs
  rw [State.setChannel_channel]
  split
  case isTrue hd => rw [hd, hx]
  case isFalse => rfl

theorem State.logged_flightLaw (hs : s.flightLaw named) (es : List Event) : (s.logged es).flightLaw named :=
  State.flightLaw_congr (s := s) (fun c => by rw [State.logged_channel]) (fun m => by rw [State.logged_station]) hs

theorem State.released_carried_eq (s : State) (c tenths : Nat) : (s.released c tenths).carried = (s.channel c).carried := by
  unfold State.released
  cases hs : (s.channel c).state <;> simp only [hs] <;> exact State.driven_carried ..

theorem State.release_flightLaw (hs : s.flightLaw named) (c tenths : Nat) : (s.release c tenths).flightLaw named := by
  by_cases hu : (s.channel c).state = .unlocked
  · rwa [State.release_unlocked s c tenths hu]
  · rw [State.release_eq s c tenths hu]
    exact State.logged_flightLaw (State.setChannel_flightLaw hs (s.released_carried_eq c tenths)) _

theorem State.egress_flightLaw (hs : s.flightLaw named) (c : Nat) (active : Bool) :
    (if active then s.egressActive c else s.egressInactive c).flightLaw named := by
  have hlevel (b : Bool) : (s.setChannel c { s.channel c with egress := b }).flightLaw named := State.setChannel_flightLaw hs rfl
  cases active
  · exact hlevel false
  · show (s.egressActive c).flightLaw named
    unfold State.egressActive
    split
    · exact hs
    dsimp only
    split
    · exact hlevel true
    · exact State.release_flightLaw (hlevel true) c _

theorem State.heldOpenExpired_flightLaw (hs : s.flightLaw named) (c : Nat) : (s.heldOpenExpired c).flightLaw named := by
  unfold State.heldOpenExpired
  dsimp only
  split
  · exact (State.append_only _ _).flies (State.setChannel_flightLaw hs rfl)
  · exact State.setChannel_flightLaw hs rfl

theorem State.periodStart_flightLaw (hs : s.flightLaw named) : s.periodStart.flightLaw named := by
  obtain ⟨hframe, hchannel⟩ := State.forEach_setChannel
    (s.setStrike { s.strike with duty := s.strike.nextDuty.getD s.strike.duty, nextDuty := none }) Channel.periodStart
    Config.channelCount
  unfold State.periodStart
  dsimp only
  generalize State.forEach Config.channelCount _ _ = u at *
  have hstart (x : Channel) : x.periodStart.carried = x.carried := by
    unfold Channel.periodStart
    split <;> rfl
  refine State.flightLaw_congr (fun c => ?_) (fun m => ?_) hs
  · rw [show ({ u with now := u.now + Config.pwmPeriod } : State).channel c = u.channel c from rfl, hchannel c]
    split
    exacts [hstart _, rfl]
  · rw [hframe]
    rfl

theorem Channel.expiry_carried (x : Channel) : x.expiry.carried = x.carried := by
  unfold Channel.expiry
  cases x.state <;> rfl

theorem State.openedChannel_carried (s : State) (c : Nat) : (s.openedChannel c).carried = (s.channel c).carried := rfl

/-! ### Stations -/

/-- A slot that holds no passage takes a state of its own. -/
theorem State.setSlot_flightLaw (hs : s.flightLaw named) (hfree : ∀ p, (s.station n).state ≠ .passage p) {x : StationSlot}
    (hx : ∀ r, x.state = .pending r → (s.station n).state = .pending r ∨ ∀ c ∈ r.config.channel, c < 16) :
    (s.setStation n x).flightLaw named := by
  refine State.flightLaw_of (s := s) (fun c m hc => ⟨hc, fun _ p hp => ⟨p, ?_, rfl⟩⟩) (fun m r hr => ?_) hs
  · have hm : m ≠ n := by
      rintro rfl
      exact hfree p hp
    rw [State.setStation_station, if_neg hm]
    exact hp
  · rw [State.setStation_station] at hr
    split at hr
    case isTrue hm => rw [hm]; exact hx r hr
    case isFalse => exact .inl hr

/-- A passage is rewritten at its station. -/
theorem State.setPassage_flightLaw (hs : s.flightLaw named) {p q : Passage} (hp : (s.station n).state = .passage p)
    (hq : q.channel = p.channel) : (s.setPassage n q).flightLaw named := by
  refine State.flightLaw_of (s := s) (fun c m hc => ⟨hc, fun _ p' hp' => ?_⟩) (fun m r hr => ?_) hs
  · by_cases hm : m = n
    · subst hm
      have hsame : p' = p := SlotState.passage.inj (hp'.symm.trans hp)
      exact ⟨q, by rw [State.setPassage, State.setStation_station_same], by rw [hq, hsame]⟩
    · exact ⟨p', by rw [State.setPassage, State.setStation_station, if_neg hm]; exact hp', rfl⟩
  · rw [State.setPassage, State.setStation_station] at hr
    split at hr
    · exact nomatch hr
    · exact .inl hr

/-- The record of a verdict, and its flag, are no part of the slot's state. -/
theorem State.setVerdict_flightLaw (hs : s.flightLaw named) (n : Nat) (v : Option StationVerdict) :
    (s.setStation n { s.station n with verdict := v }).flightLaw named := by
  refine State.flightLaw_congr (s := s) (fun c => rfl) (fun m => ?_) hs
  rw [State.setStation_station]
  split
  case isTrue h => rw [h]
  case isFalse => rfl

theorem State.carried_of_detach {h : Option Nat} {c m : Nat} (hc : ((s.detach n h).channel c).carried = some m) :
    (s.channel c).carried = some m := by
  unfold State.detach at hc
  split at hc
  case h_1 => exact hc
  case h_2 d =>
    split at hc
    case isTrue =>
      rw [State.setChannel_channel] at hc
      split at hc
      exacts [(nomatch hc), hc]
    case isFalse => exact hc

/-- The channel a passage names carries it no more. -/
theorem State.detached_carried (s : State) {h : Option Nat} {c : Nat} (hh : h = some c) :
    ((s.detach n h).channel c).carried ≠ some n := by
  subst hh
  unfold State.detach
  dsimp only
  split
  · rw [State.setChannel_channel_same]
    nofun
  · assumption

/-- A passage ends: the channel that carried it carries it no more (R83, R84). -/
theorem State.endPassage_flightLaw (hs : s.flightLaw named) {p : Passage} (hp : (s.station n).state = .passage p) {next : SlotState}
    (hnext : ∀ r, next ≠ .pending r) : (s.endPassage n p next).flightLaw named := by
  have hstation := State.detach_station (s.setStation n { s.station n with state := next }) n p.channel
  refine State.flightLaw_of (s := s) (fun c m hc => ?_) (fun m r hr => ?_) hs
  · replace hc : (((s.setStation n { s.station n with state := next }).detach n p.channel).channel c).carried = some m := hc
    have hkept : (s.channel c).carried = some m :=
      State.carried_of_detach (s := s.setStation n { s.station n with state := next }) hc
    refine ⟨hkept, fun hnamed q hq => ⟨q, ?_, rfl⟩⟩
    have hm : m ≠ n := by
      rintro rfl
      obtain ⟨-, q, hq, hchannel⟩ := (hs.2 hnamed).1 c m hkept
      obtain rfl := SlotState.passage.inj (hq.symm.trans hp)
      exact State.detached_carried _ hchannel hc
    refine (congrArg _ (hstation m)).trans ?_
    rw [State.setStation_station, if_neg hm]
    exact hq
  · have hr := (congrArg StationSlot.state (hstation m)).symm.trans hr
    rw [State.setStation_station] at hr
    split at hr
    · exact absurd hr (hnext r)
    · exact .inl hr

theorem State.completePassage_flightLaw (hs : s.flightLaw named) {p : Passage} (hp : (s.station n).state = .passage p) :
    (s.completePassage n p).flightLaw named := by
  have ho := s.complete_only p.kind.completion p.holder p.reservation (p.destination.getD 0) (.station n) (p.doneEvent n)
  refine State.endPassage_flightLaw (ho.flies hs) ?_ nofun
  rw [State.station_eq_of_stations (ho .stations rfl)]
  exact hp

theorem State.abandonPassage_flightLaw (hs : s.flightLaw named) {p : Passage} (hp : (s.station n).state = .passage p)
    (cause : AbandonCause) : (s.abandonPassage n p cause).flightLaw named := by
  refine State.endPassage_flightLaw ((s.append_only _).flies hs) hp ?_
  split <;> nofun

theorem State.withCarried_flightLaw (hs : s.flightLaw named) (c : Nat) {f : Nat → Passage → State}
    (h : ∀ n p, (s.station n).state = .passage p → (f n p).flightLaw named) : (s.withCarried c f).flightLaw named := by
  unfold State.withCarried
  split
  · exact hs
  · split
    exacts [h _ _ ‹_›, hs]

theorem State.gateOpened_flightLaw (hs : s.flightLaw named) (c : Nat) : (s.gateOpened c).flightLaw named := by
  unfold State.gateOpened
  rw [State.channelOpened_eq]
  have hopened := State.logged_flightLaw (State.setChannel_flightLaw hs (s.openedChannel_carried c))
    (if (s.channel c).state = .secure then [.gateForced c] else [])
  exact State.withCarried_flightLaw hopened c fun n p hp => State.setPassage_flightLaw hopened hp rfl

theorem State.gateClosed_flightLaw (hs : s.flightLaw named) (c : Nat) : (s.gateClosed c).flightLaw named := by
  unfold State.gateClosed
  rw [State.channelClosed_eq]
  have hclosed := State.logged_flightLaw (State.setChannel_flightLaw hs (s.channel c).closed_carried) ((s.channel c).closedEvents c)
  refine State.withCarried_flightLaw hclosed c fun n p hp => ?_
  split
  exacts [State.completePassage_flightLaw hclosed hp, hclosed]

theorem State.releaseExpired_flightLaw (hs : s.flightLaw named) (c : Nat) : (s.releaseExpired c).flightLaw named := by
  have hexpired : (s.channelExpired c).flightLaw named := by
    rw [State.channelExpired_eq]
    exact State.setChannel_flightLaw hs (s.channel c).expiry_carried
  have hhanded : ((s.channelExpired c).handExpired c).flightLaw named := by
    refine State.withCarried_flightLaw hexpired c fun n p hp => ?_
    split
    exacts [State.abandonPassage_flightLaw hexpired hp _, hexpired]
  unfold State.releaseExpired
  split
  exacts [hhanded, hhanded, hhanded, hexpired, hexpired, hexpired]

theorem State.windowDeadline_flightLaw (hs : s.flightLaw named) (n : Nat) : (s.windowDeadline n).flightLaw named := by
  unfold State.windowDeadline
  split
  case h_1 p hp =>
    split
    exacts [hs, State.abandonPassage_flightLaw hs hp _]
  case h_2 => exact hs

theorem State.takeOffline_flightLaw (hs : s.flightLaw named) (n : Nat) : (s.takeOffline n).flightLaw named := by
  unfold State.takeOffline
  split
  case h_1 p hp => exact State.abandonPassage_flightLaw hs hp _
  case h_2 hne => exact State.setSlot_flightLaw hs hne nofun

/-! ### Changes of the conditions -/

theorem State.moveChannel_flightLaw (hs : s.flightLaw named) (c : Nat) : (s.moveChannel c).flightLaw named := by
  obtain ⟨-, hchannel, hstation, -⟩ := s.moveChannel_eq c
  refine State.flightLaw_of (fun d m hd => ⟨?_, fun _ p hp => ?_⟩) (fun m r hr => .inl ?_) hs
  · rw [hchannel] at hd
    split at hd
    case isTrue hc => rwa [hc, ← State.channelMoved_carried s s c]
    case isFalse => exact hd
  · rw [hstation]
    split
    · unfold StationSlot.toWindow
      rw [hp]
      dsimp only
      split
      exacts [⟨_, rfl, rfl⟩, ⟨p, hp, rfl⟩]
    · exact ⟨p, hp, rfl⟩
  · rw [hstation] at hr
    split at hr
    · unfold StationSlot.toWindow at hr
      split at hr
      case h_1 p hp =>
        split at hr
        · exact nomatch hr
        · exact hr
      case h_2 => exact hr
    · exact hr

theorem State.moves_flightLaw (hs : s.flightLaw named) (cs : List Nat) : (cs.foldl (fun u c => u.moveChannel c) s).flightLaw named :=
  foldl_keeps (p := State.flightLaw named) (fun _ c h => State.moveChannel_flightLaw h c) cs hs

theorem State.forEach_flightLaw {f : Nat → State → State} (hf : ∀ k u, u.flightLaw named → (f k u).flightLaw named) (n : Nat)
    (hs : s.flightLaw named) : (s.forEach n f).flightLaw named :=
  foldl_keeps (p := State.flightLaw named) (fun u k h => hf k u h) _ hs

theorem State.fireStation_flightLaw (hs : s.flightLaw named) (n : Nat) : (State.fireStation n s).flightLaw named := by
  unfold State.fireStation
  split
  case h_1 p hp => exact State.abandonPassage_flightLaw hs hp _
  case h_2 => exact hs

theorem State.fireChannel_flightLaw (hs : s.flightLaw named) (c : Nat) : (State.fireChannel c s).flightLaw named := by
  unfold State.fireChannel State.enterUnlocked
  split
  · dsimp only
    cases (s.channel c).state.restored with
    | none => exact State.setChannel_flightLaw hs (s.driven_carried _)
    | some r =>
      exact State.setChannel_flightLaw ((s.append_only _).flies hs) ((s.append (.gateRestored r c)).driven_carried _)
  · exact hs

theorem State.fireActive_flightLaw (hs : s.flightLaw named) : s.fireActive.flightLaw named := by
  unfold State.fireActive
  split
  · exact hs
  have hlatched := (s.setControl_append_only { s.control with fireLive := true, fireLatch := true } .fireOn).flies hs
  dsimp only
  split
  · exact hlatched
  · refine State.forEach_flightLaw (fun c u hu => State.fireChannel_flightLaw hu c) _ ?_
    refine State.forEach_flightLaw (fun n u hu => State.fireStation_flightLaw hu n) _ ?_
    exact (Only.forEach (fun n s => s.fireCar_only n) _ _).flies hlatched

theorem State.clearChannel_flightLaw (hs : s.flightLaw named) (c : Nat) : (State.clearChannel c s).flightLaw named := by
  unfold State.clearChannel State.leaveUnlocked
  split
  · dsimp only
    split <;> exact State.setChannel_flightLaw hs rfl
  · exact hs

theorem State.channelsFollowPhase_flightLaw (hs : s.flightLaw named) : s.channelsFollowPhase.flightLaw named := by
  rw [State.channelsFollowPhase_eq]
  exact State.moves_flightLaw hs _

theorem State.evaluatePhase_flightLaw (hs : s.flightLaw named) (tick : Bool) : (s.evaluatePhase tick).flightLaw named := by
  have hclose : s.closeEvent.flightLaw named := State.channelsFollowPhase_flightLaw
    ((((s.setPhase_only _).trans (State.append_only _ _) (rs := [.clock])).trans (rs := [.clock, .roster])
      (State.rosterClose_only _ s.grace)).flies hs)
  have hopen : s.openEvent.flightLaw named := State.channelsFollowPhase_flightLaw
    ((((s.setPhase_only _).trans (State.append_only _ _) (rs := [.clock])).trans (rs := [.clock, .roster])
      (State.setRoster_only _ _)).flies hs)
  have htick (g : Nat) : (s.closingTick g).flightLaw named :=
    ((s.setPhase_only _).trans (State.rosterTick_only _) (rs := [.clock, .roster])).flies hs
  unfold State.evaluatePhase
  split
  case h_4 g _ _ =>
    split
    exacts [htick _, hs]
  exacts [hs, hclose, hopen, hopen, hs]

theorem State.storeWord_flightLaw (hs : s.flightLaw named) (w : Nat) (v : Word) : (s.storeWord w v).flightLaw named := by
  have hset := (s.setParam_only w (storedWord w v)).flies hs
  by_cases hw : 47 ≤ w ∧ w ≤ 50
  · rw [State.storeWord_modes s v hw.1 hw.2]
    exact State.moves_flightLaw hset _
  · rw [State.storeWord_plain s v hw]
    exact hset

/-- After a reset no channel carries a passage and no request waits. -/
theorem State.restart_flightLaw (hs : s.flightLaw named) (hchannels : u.channels = s.channels) (hstations : u.stations = [])
    (cause : ResetCause) (l : Lines) (f : Bool) : (u.restart cause l f).flightLaw named := by
  obtain ⟨hframe, -, hchannel⟩ := u.restart_eq cause l f
  generalize u.restart cause l f = t at *
  have hcarried (c : Nat) : (t.channel c).carried = if c < 16 then none else (s.channel c).carried := by
    rw [hchannel]
    split
    case isTrue => rfl
    case isFalse => rw [State.channel_eq_of_channels hchannels]
  refine ⟨fun c m h => ?_, fun hnamed => ?_⟩
  · rw [hcarried] at h
    split at h
    exacts [(nomatch h), hs.1 c m h]
  obtain ⟨-, hrange, -⟩ := hs.2 hnamed
  have hnone (c : Nat) : (t.channel c).carried = none := by
    rw [hcarried]
    split
    exacts [rfl, hrange c (Nat.not_lt.1 ‹_›)]
  refine ⟨fun c m h => ?_, fun c _ => hnone c, fun m r h => ?_⟩
  · rw [hnone] at h
    exact nomatch h
  · rw [State.station, show t.stations = [] by rw [hframe]; exact hstations] at h
    exact nomatch h

/-! ### The engine -/

theorem State.nextWork_station_inv {n : Nat} {r : Request} (h : s.nextWork = some (.station n r)) :
    n < 64 ∧ (s.station n).state = .pending r := by
  unfold State.nextWork at h
  rw [Option.or_eq_some_iff, Option.or_eq_some_iff] at h
  rcases h with hcar | ⟨-, hstation | ⟨-, hrecord⟩⟩
  · obtain ⟨m, -, hm⟩ := List.exists_of_findSome?_eq_some hcar
    unfold State.carWork at hm
    split at hm <;> simp at hm
  · obtain ⟨m, hlt, hm⟩ := List.exists_of_findSome?_eq_some hstation
    unfold State.stationWork at hm
    split at hm
    case h_1 q hq =>
      injection hm with hm
      injection hm with hmn hqr
      rw [← hmn, ← hqr]
      exact ⟨List.mem_range.1 hlt, hq⟩
    case h_2 => exact nomatch hm
  · unfold State.recordWork at hrecord
    split at hrecord <;> simp at hrecord

theorem State.takeStation_flightLaw (hs : s.flightLaw named) (type : StationType) {judge : State → Nat → Request → State}
    (h : ∀ n r, n < 64 → (s.station n).state = .pending r → (judge s n r).flightLaw named) :
    (s.takeStation type judge).flightLaw named := by
  unfold State.takeStation
  split
  case h_1 n r hw =>
    obtain ⟨hn, hr⟩ := State.nextWork_station_inv hw
    split
    exacts [h n r hn hr, hs]
  case h_2 => exact hs

theorem State.denyStation_flightLaw (hs : s.flightLaw named) {r : Request} (hr : (s.station n).state = .pending r) (who : Option Nat)
    (reason : DenyReason) : (s.denyStation n who reason).flightLaw named := by
  have hverdict : (s.writeVerdict n (.deny reason) who).flightLaw named :=
    (State.setPort_field_only _ _).flies (State.setVerdict_flightLaw hs n _)
  refine State.setSlot_flightLaw ((State.append_only _ _).flies hverdict) (fun p hp => ?_) nofun
  have hsame : ((s.writeVerdict n (.deny reason) who).append (.denied reason (.station n) who)).station n =
      { s.station n with verdict := some { outcome := .deny reason, tenant := who, unfetched := true } } :=
    s.setStation_station_same n _
  rw [hsame] at hp
  replace hp := hr.symm.trans hp
  exact nomatch hp

/-- A grant puts the passage in flight at the station and lets its channel carry it, and the one it replaces flies on. -/
theorem State.grants_flightLaw (hs : s.flightLaw named) {r : Request} (hn : n < 64) (hr : (s.station n).state = .pending r)
    {kind : PassageKind} {dest who : Option Nat} {res : Option Reservation} {pb : Prop} [Decidable pb]
    (h : s.grants t n r kind dest who res pb) : t.flightLaw named := by
  obtain ⟨hslot, hothers, hchannel, -⟩ := h
  refine ⟨fun c m hc => ?_, fun hstrict => ?_⟩
  · rw [hchannel] at hc
    split at hc
    exacts [Option.some.inj hc ▸ hn, hs.1 c m hc]
  obtain ⟨hfly, hrange, hnamed⟩ := hs.2 hstrict
  refine ⟨fun c m hc => ?_, fun c hc => ?_, fun m q hq => ?_⟩
  · rw [hchannel] at hc
    split at hc
    case isTrue hgate =>
      obtain rfl : n = m := Option.some.inj hc
      exact ⟨hn, _, congrArg StationSlot.state hslot, hgate⟩
    case isFalse =>
      obtain ⟨hm, p, hp, hpc⟩ := hfly c m hc
      have hne : m ≠ n := by
        rintro rfl
        exact nomatch hp.symm.trans hr
      refine ⟨hm, ?_⟩
      rw [hothers m hne, hp]
      dsimp only
      split
      exacts [⟨_, rfl, hpc⟩, ⟨p, hp, hpc⟩]
  · rw [hchannel]
    split
    case isTrue hgate => exact absurd (hnamed n r hr c hgate) (Nat.not_lt.2 hc)
    case isFalse => exact hrange c hc
  · by_cases hm : m = n
    · rw [hm, hslot] at hq
      exact nomatch hq
    · rw [hothers m hm] at hq
      refine hnamed m q ?_
      cases hp : (s.station m).state with
      | passage p =>
        rw [hp] at hq
        dsimp only at hq
        split at hq
        · exact nomatch hq
        · exact (hp.symm.trans hq)
      | _ =>
        rw [hp] at hq
        exact hp ▸ hq

theorem State.decideEntry_flightLaw (hs : s.flightLaw named) {r : Request} (hn : n < 64) (hr : (s.station n).state = .pending r) :
    (s.decideEntry n r).flightLaw named := by
  unfold State.decideEntry
  dsimp only
  split
  exacts [State.denyStation_flightLaw hs hr _ _, State.grants_flightLaw hs hn hr (s.grantStation_grants n r _ _ _ _ Iff.rfl rfl)]

theorem State.decideExit_flightLaw (hs : s.flightLaw named) {r : Request} (hn : n < 64) (hr : (s.station n).state = .pending r) :
    (s.decideExit n r).flightLaw named := by
  unfold State.decideExit
  dsimp only
  split
  exacts [State.denyStation_flightLaw hs hr _ _, State.grants_flightLaw hs hn hr (s.grantStation_grants n r _ _ _ _ Iff.rfl rfl)]

theorem State.decideZone_flightLaw (hs : s.flightLaw named) {r : Request} (hn : n < 64) (hr : (s.station n).state = .pending r) :
    (s.decideZone n r).flightLaw named := by
  unfold State.decideZone
  dsimp only
  split
  exacts [State.denyStation_flightLaw hs hr _ _, State.grants_flightLaw hs hn hr (s.grantStation_grants n r _ _ _ _ Iff.rfl rfl)]

/-! ### Commands and events -/

/-- A law that the effect keeps where the checks pass is kept by the command. -/
theorem answer_keeps_of {P : State → Prop} {checks : List (Bool × ResultCode)} {effect : State} (hs : P s)
    (h : (∀ c ∈ checks, c.1 = false) → P effect) : P (answer checks s effect).2 := by
  rcases answer_inv checks s effect with hsame | ⟨hchecks, heffect⟩
  · rwa [hsame]
  · rw [heffect]
    exact h hchecks

theorem State.channel_of_effectiveConfig {c : Nat} (hc : c ∈ (s.effectiveConfig n).channel) : c < 16 := by
  unfold State.effectiveConfig at hc
  dsimp only at hc
  split at hc
  case isTrue => exact nomatch hc
  case isFalse h =>
    obtain rfl := Option.some.inj hc
    simp only [Config.channelCount, Bool.or_eq_true, decide_eq_true_eq, not_or, Nat.not_le] at h
    exact h.1

theorem runPresent_flightLaw (hs : s.flightLaw named) (args : List Byte) : (runPresent args s).2.flightLaw named := by
  unfold runPresent
  dsimp only
  split
  · exact hs
  · refine answer_keeps_of hs fun hchecks => State.setSlot_flightLaw hs (fun p hp => ?_) fun r hr => .inr fun c hc => ?_
    · simp [hp, SlotState.isBusy] at hchecks
    · obtain rfl := SlotState.pending.inj hr
      exact State.channel_of_effectiveConfig hc

theorem runStationOnline_flightLaw (hs : s.flightLaw named) (args : List Byte) : (runStationOnline args s).2.flightLaw named := by
  refine answer_keeps_of hs fun hchecks => State.setSlot_flightLaw hs (fun p hp => ?_) nofun
  simp [hp] at hchecks

theorem runFireClear_flightLaw (hs : s.flightLaw named) : (runFireClear s).2.flightLaw named :=
  answer_keeps_of hs fun _ => State.forEach_flightLaw (fun c _ hu => State.clearChannel_flightLaw hu c) _
    ((s.setControl_append_only _ _).flies hs)

theorem State.warmReset_flightLaw (hs : s.flightLaw named) (cause : ResetCause) (l : Lines) : (s.warmReset cause l).flightLaw named := by
  rw [State.warmReset_eq]
  exact State.restart_flightLaw (u := s.warmStart s.power) hs rfl rfl _ _ _

theorem runCommand_flightLaw (c : Command) (l : Lines) (args : List Byte) (hs : s.flightLaw named) :
    (runCommand c l args s).2.flightLaw named := by
  have ho := runCommand_only c l args s
  cases c
  case setClock =>
    show (runSetClock args s).2.flightLaw named
    rw [runSetClock_eq]
    split
    · exact hs
    · exact State.evaluatePhase_flightLaw (((s.setClock_only _).trans (State.append_only _ _) (rs := [.clock])).flies hs) _
  case paramWrite =>
    show (runParamWrite l.svckey args s).2.flightLaw named
    rcases runParamWrite_cases l.svckey args s with h | ⟨-, -, -, h⟩
    · rwa [h]
    · rw [h]
      exact State.storeWord_flightLaw hs _ _
  case gatePulse =>
    refine answer_keeps_of hs fun _ => ?_
    split
    exacts [hs, State.release_flightLaw hs _ _]
  case fireClear => exact runFireClear_flightLaw hs
  case deviceReset => exact State.warmReset_flightLaw hs .command l
  case present => exact runPresent_flightLaw hs args
  case verdictFetch => exact hs
  case stationOnline => exact runStationOnline_flightLaw hs args
  case stationOffline => exact answer_keeps_of hs fun _ => State.takeOffline_flightLaw hs _
  case passed => exact endByField_keeps hs fun _ _ _ hp _ => State.completePassage_flightLaw hs hp
  case noPassage => exact endByField_keeps hs fun _ _ _ hp _ => State.abandonPassage_flightLaw hs hp _
  all_goals exact ho.flies hs

theorem State.minuteTick_flightLaw (hs : s.flightLaw named) : s.minuteTick.flightLaw named := by
  have hcounted (k : Clock) := (s.setClock_only k).flies hs
  unfold State.minuteTick
  split
  · dsimp only
    split
    exacts [State.evaluatePhase_flightLaw (hcounted _) _, hcounted _]
  · exact hs

theorem runEvent_flightLaw (i : Instr) (hs : s.flightLaw named) : (runEvent i s).flightLaw named := by
  have ho := runEvent_only i s
  have ite {c : Prop} [Decidable c] {t u : State} (ht : t.flightLaw named) (hu : u.flightLaw named) :
      (if c then t else u).flightLaw named := by
    split
    exacts [ht, hu]
  cases i
  case gateContactOpen c => exact ite hs (State.gateOpened_flightLaw hs _)
  case gateContactClose c => exact ite (State.gateClosed_flightLaw hs _) hs
  case egressRequest c active => exact State.egress_flightLaw hs c active
  case releaseTimerExpiry c => exact ite (State.releaseExpired_flightLaw hs _) hs
  case heldOpenTimerExpiry c => exact ite (State.heldOpenExpired_flightLaw hs _) hs
  case pickTimerExpiry c => exact State.setChannel_flightLaw hs rfl
  case fireInputActive => exact State.fireActive_flightLaw hs
  case secondTick =>
    show s.secondTick.flightLaw named
    unfold State.secondTick
    exact ite (ite ((s.setClock_only _).flies hs) (State.minuteTick_flightLaw hs)) hs
  case minuteTick => exact State.minuteTick_flightLaw hs
  case entryDecision => exact State.takeStation_flightLaw hs .entry fun _ _ hn hr => State.decideEntry_flightLaw hs hn hr
  case exitDecision => exact State.takeStation_flightLaw hs .exit fun _ _ hn hr => State.decideExit_flightLaw hs hn hr
  case zoneDecision => exact State.takeStation_flightLaw hs .zone fun _ _ hn hr => State.decideZone_flightLaw hs hn hr
  case passageWindowDeadline n => exact State.windowDeadline_flightLaw hs n
  case pwmPeriodStart => exact State.periodStart_flightLaw hs
  case coldReset l b => exact State.restart_flightLaw (u := s.coldStart) hs rfl rfl .cold l !b
  case retentionReset l b =>
    show (s.powerReturns l b).flightLaw named
    rw [State.powerReturns_eq]
    exact ite (State.restart_flightLaw (u := s.warmStart _) hs rfl rfl .retention l !b)
      (State.restart_flightLaw (u := s.coldStart) hs rfl rfl .cold l !b)
  case pinReset l =>
    show (s.pinReset l).flightLaw named
    rw [State.pinReset_eq]
    exact ite (State.restart_flightLaw (u := s.warmStart _) hs rfl rfl .pin l false) ((s.setPower_only _).flies hs)
  all_goals exact ho.flies hs

theorem endRead_flightLaw (c : Command) (bytes : Nat) (m : Sample) (hr : isRead c = true) (hs : s.flightLaw named) :
    (endRead c bytes m s).flightLaw named := by
  have ho := endRead_only c bytes m s
  cases c
  case verdictFetch =>
    show (match m.fetch with | some n => s.clearVerdict n | none => s).flightLaw named
    cases m.fetch with
    | none => exact hs
    | some n => exact State.setVerdict_flightLaw hs n _
  all_goals first | exact ho.flies hs | exact nomatch hr

theorem exec_flightLaw : ∀ (i : Instr) (s t : State), s.flightLaw named → exec i s = .next t → t.flightLaw named :=
  exec_keeps flightLaw_reads rfl (fun c l args _ _ _ hs => runCommand_flightLaw c l args hs)
    (fun c bytes m _ hr _ hs => endRead_flightLaw c bytes m hr hs) (fun i _ _ hs => runEvent_flightLaw i hs)

/-! ### The hold duty -/

/-- What the event `i` makes of the duty in force and of the buffered one (R136). -/
def State.DutyMoves (i : Instr) (s t : State) : Prop :=
  (t.strike.duty = s.strike.duty ∧ t.strike.nextDuty = s.strike.nextDuty) ∨
    (t.strike.duty = 255 ∧ t.strike.nextDuty = none ∧ t.strike.reading = 0 ∧ t.window = none ∧ t.cursor = none) ∨
    (i = .pwmPeriodStart ∧ t.strike.duty = s.strike.nextDuty.getD s.strike.duty ∧ t.strike.nextDuty = none) ∨
    ∃ v : Fin 1024, i = .supplySample v ∧ 120 ≤ v.val ∧ t.strike.duty = s.strike.duty ∧
      t.strike.nextDuty = some (if s.holdVoltage = 0 then 255 else min 255 ((s.holdVoltage * 256 + v.val / 2) / v.val))

theorem State.DutyMoves.same {i : Instr} (h : t.strike = s.strike) : s.DutyMoves i t := .inl ⟨by rw [h], by rw [h]⟩

theorem State.restart_dutyMoves {i : Instr} (hu : u.dropWork = u) (cause : ResetCause) (l : Lines) (f : Bool) :
    s.DutyMoves i (u.restart cause l f) := by
  obtain ⟨-, hcursor, -, -, -, hstrike, -, -, hwindow, -⟩ := State.restart_isReset hu cause l f
  exact .inr (.inl ⟨by rw [hstrike], by rw [hstrike], by rw [hstrike], hwindow, hcursor⟩)

theorem runCommand_dutyMoves (i : Instr) (c : Command) (l : Lines) (args : List Byte) (s : State) :
    s.DutyMoves i (runCommand c l args s).2 := by
  have ho := runCommand_only c l args s
  cases c
  case deviceReset => exact State.restart_dutyMoves (s.warmStart_dropWork s.power) .command l false
  all_goals exact .same (ho .strike rfl)

/-- The buffered duty is 255 for a hold voltage of 0, and where the computed one saturates (R136). -/
theorem heldDuty_eq (H v : Nat) :
    (if H = 0 ∨ (decide (H ≠ 0) && decide (255 < computedDuty H v)) = true then 255 else computedDuty H v) =
      if H = 0 then 255 else min 255 (computedDuty H v) := by
  by_cases hH : H = 0
  · rw [if_pos (.inl hH), if_pos hH]
  · by_cases hlow : 255 < computedDuty H v
    · rw [if_pos (.inr (by simp [hH, hlow])), if_neg hH, Nat.min_eq_left hlow.le]
    · rw [if_neg (by simp [hH, hlow]), if_neg hH, Nat.min_eq_right (Nat.not_lt.1 hlow)]

theorem State.supplySample_dutyMoves (s : State) (v : Fin 1024) : s.DutyMoves (.supplySample v) (s.supplySample v) := by
  unfold State.supplySample
  split
  case isTrue =>
    rw [State.failSample_eq]
    exact .inl ⟨by rw [State.logged_frame], by rw [State.logged_frame]⟩
  case isFalse hv =>
    rw [State.goodSample_eq s v _ _ rfl rfl]
    refine .inr (.inr (.inr ⟨v, rfl, Nat.not_lt.1 hv, by rw [State.logged_frame], ?_⟩))
    rw [State.logged_frame]
    exact congrArg some (heldDuty_eq s.holdVoltage v)

theorem State.periodStart_strike (s : State) :
    s.periodStart.strike = { s.strike with duty := s.strike.nextDuty.getD s.strike.duty, nextDuty := none } := by
  obtain ⟨hframe, -⟩ := State.forEach_setChannel
    (s.setStrike { s.strike with duty := s.strike.nextDuty.getD s.strike.duty, nextDuty := none }) Channel.periodStart
    Config.channelCount
  unfold State.periodStart
  dsimp only
  generalize State.forEach Config.channelCount _ _ = u at *
  rw [hframe]
  rfl

theorem runEvent_dutyMoves (i : Instr) (s : State) : s.DutyMoves i (runEvent i s) := by
  have ho := runEvent_only i s
  cases i
  case coldReset l b => exact State.restart_dutyMoves s.coldStart_dropWork .cold l !b
  case retentionReset l b =>
    show s.DutyMoves _ (s.powerReturns l b)
    rw [State.powerReturns_eq]
    split
    exacts [State.restart_dutyMoves (s.warmStart_dropWork _) .retention l !b,
      State.restart_dutyMoves s.coldStart_dropWork .cold l !b]
  case pinReset l =>
    show s.DutyMoves _ (s.pinReset l)
    rw [State.pinReset_eq]
    split
    exacts [State.restart_dutyMoves (s.warmStart_dropWork _) .pin l false, .same rfl]
  case pwmPeriodStart =>
    have hstrike := s.periodStart_strike
    show s.DutyMoves .pwmPeriodStart s.periodStart
    exact .inr (.inr (.inl ⟨rfl, congrArg Strike.duty hstrike, congrArg Strike.nextDuty hstrike⟩))
  case supplySample v => exact s.supplySample_dutyMoves v
  all_goals exact .same (ho .strike rfl)

theorem exec_dutyMoves (i : Instr) (s t : State) (h : exec i s = .next t) : s.DutyMoves i t := by
  obtain ⟨u, htook, hengine⟩ := exec_took i s t h
  have hu : s.DutyMoves i u := by
    cases htook with
    | idle => exact .same rfl
    | command c l args => exact runCommand_dutyMoves i c l args s
    | read c bytes m hr =>
      have ho := endRead_only c bytes m s
      refine .same (ho .strike ?_)
      cases c <;> first | rfl | exact (nomatch hr)
    | event => exact runEvent_dutyMoves i s
  unfold State.DutyMoves at hu ⊢
  rwa [show t.strike = u.strike from hengine.1 .strike rfl, show t.window = u.window from (hengine.1 .timers rfl).1,
    show t.cursor = u.cursor from hengine.1 .cursor rfl]

/-- Settles O52: the laws of state and of the carried passages by each operation, the duty by the few that write it. -/
theorem channelsKeepTheirLaws : Obligations.ChannelsKeepTheirLaws :=
  ⟨exec_of_moves fun _ _ h => h.channelLaw,
    fun i s t hs h => (exec_flightLaw (named := True) i s t ⟨fun c n hc => (hs.1 c n hc).1, fun _ => hs⟩ h).2 trivial, exec_dutyMoves⟩

end

end Sys2Proof.Machine
end

section
/-! What an event makes of the reservations held: it ends some, or a grant adds one (R43, R45, R46). -/

namespace Sys2Proof.Machine

set_option Elab.async false -- one thread for the file, as in the tests: a thread for each theorem reaches the memory limit

section
variable {s t u : State} {n : Nat}

/-! ### Events that only end passages and trips -/

/-- Every passage of `t` stood before with the same reservation, and every trip stood as it is. -/
def State.Ends (s t : State) : Prop :=
  (∀ n p, (t.station n).state = .passage p → ∃ q, (s.station n).state = .passage q ∧ q.reservation = p.reservation) ∧
    ∀ n tr, (t.car n).state = .trip tr → (s.car n).state = .trip tr

theorem State.Ends.refl (s : State) : s.Ends s := ⟨fun _ p hp => ⟨p, hp, rfl⟩, fun _ _ h => h⟩

theorem State.Ends.trans (h : s.Ends t) (h' : t.Ends u) : s.Ends u :=
  ⟨fun n p hp => by
    obtain ⟨q, hq, hqp⟩ := h'.1 n p hp
    obtain ⟨r, hr, hrq⟩ := h.1 n q hq
    exact ⟨r, hr, hrq.trans hqp⟩, fun n tr htr => h.2 n tr (h'.2 n tr htr)⟩

theorem State.Ends.ite {c : Prop} [Decidable c] (ht : s.Ends t) (hu : s.Ends u) : s.Ends (if c then t else u) := by
  split
  exacts [ht, hu]

theorem State.car_eq_of_cars (h : t.cars = s.cars) (n : Nat) : t.car n = s.car n := by
  unfold State.car
  rw [h]

theorem Only.ends {ps : List Part} (h : Only ps s t) (hst : Part.stations.isIn ps = false := by rfl)
    (hca : Part.cars.isIn ps = false := by rfl) : s.Ends t :=
  ⟨fun n p hp => ⟨p, by rwa [State.station_eq_of_stations (h .stations hst)] at hp, rfl⟩,
    fun n tr htr => by rwa [State.car_eq_of_cars (h .cars hca)] at htr⟩

theorem State.setStation_ends {x : StationSlot}
    (hx : ∀ p, x.state = .passage p → ∃ q, (s.station n).state = .passage q ∧ q.reservation = p.reservation) :
    s.Ends (s.setStation n x) := by
  refine ⟨fun m p hp => ?_, fun _ _ h => h⟩
  rw [State.setStation_station] at hp
  split at hp
  case isTrue hm => exact hm ▸ hx p hp
  case isFalse => exact ⟨p, hp, rfl⟩

theorem State.setCar_ends {x : CarSlot} (hx : ∀ tr, x.state = .trip tr → (s.car n).state = .trip tr) : s.Ends (s.setCar n x) := by
  refine ⟨fun _ p hp => ⟨p, hp, rfl⟩, fun m tr htr => ?_⟩
  rw [State.setCar_car] at htr
  split at htr
  case isTrue hm => exact hm ▸ hx tr htr
  case isFalse => exact htr

theorem State.setPassage_ends {p q : Passage} (hp : (s.station n).state = .passage p) (hq : q.reservation = p.reservation) :
    s.Ends (s.setPassage n q) :=
  State.setStation_ends fun p' hp' => ⟨p, hp, by rw [← hq, SlotState.passage.inj hp']⟩

theorem State.endPassage_ends (s : State) (n : Nat) (p : Passage) {next : SlotState} (hnext : ∀ q, next ≠ .passage q) :
    s.Ends (s.endPassage n p next) :=
  (State.setStation_ends fun q hq => absurd hq (hnext q)).trans (State.detach_only _ n p.channel).ends

theorem State.completePassage_ends (s : State) (n : Nat) (p : Passage) : s.Ends (s.completePassage n p) :=
  (s.complete_only _ _ _ _ _ _).ends.trans (State.endPassage_ends _ n p nofun)

theorem State.abandonPassage_ends (s : State) (n : Nat) (p : Passage) (cause : AbandonCause) :
    s.Ends (s.abandonPassage n p cause) := by
  refine (s.append_only _).ends.trans (State.endPassage_ends _ n p ?_)
  split <;> nofun

theorem State.withCarried_ends (s : State) (c : Nat) {f : Nat → Passage → State}
    (h : ∀ n p, (s.station n).state = .passage p → s.Ends (f n p)) : s.Ends (s.withCarried c f) := by
  unfold State.withCarried
  split
  · exact .refl s
  · split
    exacts [h _ _ ‹_›, .refl s]

theorem State.gateOpened_ends (s : State) (c : Nat) : s.Ends (s.gateOpened c) :=
  (s.channelOpened_only c).ends.trans (State.withCarried_ends _ c fun _ _ hp => State.setPassage_ends hp rfl)

theorem State.gateClosed_ends (s : State) (c : Nat) : s.Ends (s.gateClosed c) :=
  (s.channelClosed_only c).ends.trans
    (State.withCarried_ends _ c fun n p _ => .ite (State.completePassage_ends _ n p) (.refl _))

theorem State.releaseExpired_ends (s : State) (c : Nat) : s.Ends (s.releaseExpired c) := by
  have hexpired : s.Ends (s.channelExpired c) := (s.channelExpired_only c).ends
  have hhanded : s.Ends ((s.channelExpired c).handExpired c) := hexpired.trans
    (State.withCarried_ends _ c fun n p _ => .ite (State.abandonPassage_ends _ n p _) (.refl _))
  unfold State.releaseExpired
  split
  exacts [hhanded, hhanded, hhanded, hexpired, hexpired, hexpired]

theorem State.windowDeadline_ends (s : State) (n : Nat) : s.Ends (s.windowDeadline n) := by
  unfold State.windowDeadline
  split
  case h_1 p _ =>
    split
    exacts [.refl s, s.abandonPassage_ends n p _]
  case h_2 => exact .refl s

theorem State.takeOffline_ends (s : State) (n : Nat) : s.Ends (s.takeOffline n) := by
  unfold State.takeOffline
  split
  case h_1 p _ => exact s.abandonPassage_ends n p _
  case h_2 => exact State.setStation_ends nofun

theorem State.moveChannel_ends (s : State) (c : Nat) : s.Ends (s.moveChannel c) := by
  obtain ⟨hframe, -, hstation, -⟩ := s.moveChannel_eq c
  refine ⟨fun n p hp => ?_, fun n tr htr => ?_⟩
  · rw [hstation] at hp
    split at hp
    · unfold StationSlot.toWindow at hp
      split at hp
      case h_1 q hq =>
        split at hp
        · exact ⟨q, hq, by rw [← SlotState.passage.inj hp]⟩
        · exact ⟨p, hp, rfl⟩
      case h_2 => exact ⟨p, hp, rfl⟩
    · exact ⟨p, hp, rfl⟩
  · rwa [State.car_eq_of_cars (by rw [hframe])] at htr

theorem State.foldl_ends {α : Type} {f : State → α → State} (hf : ∀ (u : State) a, u.Ends (f u a)) (as : List α) (s : State) :
    s.Ends (as.foldl f s) :=
  foldl_keeps (p := fun u => s.Ends u) (fun u a h => h.trans (hf u a)) as (.refl s)

theorem State.channelsFollowPhase_ends (s : State) : s.Ends s.channelsFollowPhase := by
  rw [State.channelsFollowPhase_eq]
  exact State.foldl_ends (fun u c => u.moveChannel_ends c) _ s

theorem State.evaluatePhase_ends (s : State) (tick : Bool) : s.Ends (s.evaluatePhase tick) := by
  have hclose : s.Ends s.closeEvent :=
    (((s.setPhase_only _).trans (State.append_only _ _) (rs := [.clock])).trans (rs := [.clock, .roster])
      (State.rosterClose_only _ s.grace)).ends.trans (State.channelsFollowPhase_ends _)
  have hopen : s.Ends s.openEvent :=
    (((s.setPhase_only _).trans (State.append_only _ _) (rs := [.clock])).trans (rs := [.clock, .roster])
      (State.setRoster_only _ _)).ends.trans (State.channelsFollowPhase_ends _)
  have htick (g : Nat) : s.Ends (s.closingTick g) :=
    ((s.setPhase_only _).trans (State.rosterTick_only _) (rs := [.clock, .roster])).ends
  unfold State.evaluatePhase
  split
  case h_4 g _ _ => exact .ite (htick g) (.refl s)
  exacts [.refl s, hclose, hopen, hopen, .refl s]

theorem State.storeWord_ends (s : State) (w : Nat) (v : Word) : s.Ends (s.storeWord w v) := by
  have hset := (s.setParam_only w (storedWord w v)).ends
  by_cases hw : 47 ≤ w ∧ w ≤ 50
  · rw [State.storeWord_modes s v hw.1 hw.2]
    exact hset.trans (State.foldl_ends (fun u c => u.moveChannel_ends c) _ _)
  · rw [State.storeWord_plain s v hw]
    exact hset

theorem State.abandonTrip_ends (s : State) (n : Nat) (tr : Trip) (cause : AbandonCause) : s.Ends (s.abandonTrip n tr cause) :=
  (s.append_only _).ends.trans (State.setCar_ends nofun)

theorem State.completeTrip_ends (s : State) (n : Nat) (tr : Trip) : s.Ends (s.completeTrip n tr) :=
  (s.complete_only _ _ _ _ _ _).ends.trans (State.setCar_ends nofun)

theorem State.tripDeadline_ends (s : State) (n : Nat) : s.Ends (s.tripDeadline n) := by
  unfold State.tripDeadline
  split
  exacts [s.abandonTrip_ends n _ _, .refl s]

theorem State.fireCar_ends (s : State) (n : Nat) : s.Ends (State.fireCar n s) := by
  unfold State.fireCar
  split
  exacts [s.abandonTrip_ends n _ _, .refl s]

theorem State.fireStation_ends (s : State) (n : Nat) : s.Ends (State.fireStation n s) := by
  unfold State.fireStation
  split
  exacts [s.abandonPassage_ends n _ _, .refl s]

theorem State.fireActive_ends (s : State) : s.Ends s.fireActive := by
  unfold State.fireActive
  split
  · exact .refl s
  have hlatched := (s.setControl_append_only { s.control with fireLive := true, fireLatch := true } .fireOn).ends
  dsimp only
  split
  · exact hlatched
  · exact ((hlatched.trans (State.foldl_ends (fun u n => u.fireCar_ends n) _ _)).trans
      (State.foldl_ends (fun u n => u.fireStation_ends n) _ _)).trans (State.fireChannels_only _).ends

/-- After a reset nothing is in flight. -/
theorem State.isReset_ends {cause : ResetCause} {q : List Instr} (h : t.isReset cause q) : s.Ends t := by
  obtain ⟨-, -, hstation, hcar, -⟩ := h
  refine ⟨fun n p hp => ?_, fun n tr htr => ?_⟩
  · rw [hstation] at hp
    exact nomatch hp
  · rw [hcar] at htr
    exact nomatch htr

theorem State.denyStation_ends (s : State) (n : Nat) (who : Option Nat) (reason : DenyReason) :
    s.Ends (s.denyStation n who reason) := by
  have hverdict : s.Ends (s.writeVerdict n (.deny reason) who) :=
    (State.setStation_ends (x := { s.station n with verdict := some { outcome := .deny reason, tenant := who, unfetched := true } })
      fun p hp => ⟨p, hp, rfl⟩).trans (State.setPort_field_only _ _).ends
  exact (hverdict.trans (State.append_only _ _).ends).trans (State.setStation_ends nofun)

theorem State.denyCar_ends (s : State) (n : Nat) (r : CarRequest) (who : Option Nat) (reason : DenyReason) :
    s.Ends (s.denyCar n r who reason) := by
  refine ⟨fun _ p hp => ⟨p, hp, rfl⟩, fun m tr htr => ?_⟩
  rw [State.denyCar_car] at htr
  split at htr
  exacts [(nomatch htr), htr]

/-! ### Commands and events -/

theorem runCommand_ends (c : Command) (l : Lines) (args : List Byte) (s : State) : s.Ends (runCommand c l args s).2 := by
  have ho := runCommand_only c l args s
  cases c
  case setClock =>
    show s.Ends (runSetClock args s).2
    rw [runSetClock_eq]
    split
    · exact .refl s
    · exact ((s.setClock_only _).trans (State.append_only _ _) (rs := [.clock])).ends.trans (State.evaluatePhase_ends _ _)
  case paramWrite =>
    show s.Ends (runParamWrite l.svckey args s).2
    rcases runParamWrite_cases l.svckey args s with h | ⟨-, -, -, h⟩
    · rw [h]
      exact .refl s
    · rw [h]
      exact s.storeWord_ends _ _
  case deviceReset => exact State.isReset_ends (State.restart_isReset (s.warmStart_dropWork s.power) .command l false)
  case present =>
    show s.Ends (runPresent args s).2
    unfold runPresent
    dsimp only
    split
    exacts [.refl s, answer_keeps (P := s.Ends) (.refl s) (State.setStation_ends nofun)]
  case carQuery =>
    show s.Ends (runCarQuery args s).2
    unfold runCarQuery
    dsimp only
    split
    exacts [.refl s, answer_keeps (P := s.Ends) (.refl s) (State.setCar_ends nofun)]
  case verdictFetch => exact .refl s
  case carFetch => exact .refl s
  case stationOnline => exact answer_keeps (P := s.Ends) (.refl s) (State.setStation_ends nofun)
  case stationOffline => exact answer_keeps (P := s.Ends) (.refl s) (s.takeOffline_ends _)
  case passed => exact endByField_keeps (P := s.Ends) (.refl s) fun n p _ _ _ => s.completePassage_ends n p
  case noPassage => exact endByField_keeps (P := s.Ends) (.refl s) fun n p _ _ _ => s.abandonPassage_ends n p _
  case carAlight => exact endByLift_keeps (P := s.Ends) (.refl s) fun n tr _ _ => s.completeTrip_ends n tr
  case carCancel => exact endByLift_keeps (P := s.Ends) (.refl s) fun n tr _ _ => s.abandonTrip_ends n tr _
  all_goals exact ho.ends

theorem endRead_ends (c : Command) (bytes : Nat) (m : Sample) (s : State) (hr : isRead c = true) : s.Ends (endRead c bytes m s) := by
  have ho := endRead_only c bytes m s
  cases c
  case verdictFetch =>
    show s.Ends (match m.fetch with | some n => s.clearVerdict n | none => s)
    cases m.fetch with
    | none => exact .refl s
    | some n => exact State.setStation_ends fun p hp => ⟨p, hp, rfl⟩
  case carFetch =>
    show s.Ends (match m.fetch with | some n => s.clearCarVerdict n | none => s)
    cases m.fetch with
    | none => exact .refl s
    | some n => exact State.setCar_ends fun _ h => h
  all_goals first | exact ho.ends | exact (nomatch hr)

/-- The row is a decision of the engine on a request. -/
def isDecision : Instr → Bool
  | .entryDecision | .exitDecision | .zoneDecision | .carDecision => true
  | _ => false

theorem State.minuteTick_ends (s : State) : s.Ends s.minuteTick := by
  have hcounted (k : Clock) : s.Ends (s.setClock k) := (s.setClock_only k).ends
  unfold State.minuteTick
  dsimp only
  exact .ite (.ite ((hcounted _).trans (State.evaluatePhase_ends _ _)) (hcounted _)) (.refl s)

theorem runEvent_ends (i : Instr) (s : State) (hi : isDecision i = false) : s.Ends (runEvent i s) := by
  have ho := runEvent_only i s
  cases i
  case entryDecision | exitDecision | zoneDecision | carDecision => exact nomatch hi
  case gateContactOpen c => exact .ite (.refl s) (s.gateOpened_ends c)
  case gateContactClose c => exact .ite (s.gateClosed_ends c) (.refl s)
  case releaseTimerExpiry c => exact .ite (s.releaseExpired_ends c) (.refl s)
  case fireInputActive => exact s.fireActive_ends
  case secondTick =>
    show s.Ends s.secondTick
    unfold State.secondTick
    exact .ite (.ite (s.setClock_only _).ends s.minuteTick_ends) (.refl s)
  case minuteTick => exact s.minuteTick_ends
  case passageWindowDeadline n => exact s.windowDeadline_ends n
  case tripDeadline n => exact s.tripDeadline_ends n
  case coldReset l b => exact State.isReset_ends (State.restart_isReset s.coldStart_dropWork .cold l !b)
  case retentionReset l b =>
    show s.Ends (s.powerReturns l b)
    rw [State.powerReturns_eq]
    exact .ite (State.isReset_ends (State.restart_isReset (s.warmStart_dropWork _) .retention l !b))
      (State.isReset_ends (State.restart_isReset s.coldStart_dropWork .cold l !b))
  case pinReset l =>
    show s.Ends (s.pinReset l)
    rw [State.pinReset_eq]
    exact .ite (State.isReset_ends (State.restart_isReset (s.warmStart_dropWork _) .pin l false)) (s.setPower_only _).ends
  all_goals exact ho.ends

/-! ### The reservations of the slots -/

theorem filterMap_sublist_of_kept {α β : Type} {f g : α → Option β} {l : List α} (h : ∀ a ∈ l, g a = none ∨ g a = f a) :
    (l.filterMap g).Sublist (l.filterMap f) := by
  induction l with
  | nil => exact .refl _
  | cons a l ih =>
    have hl := ih fun b hb => h b (.tail a hb)
    rw [List.filterMap_cons, List.filterMap_cons]
    rcases h a (.head l) with ha | ha
    · rw [ha]
      dsimp only
      split
      exacts [hl, hl.cons _]
    · rw [ha]
      split
      exacts [hl, hl.cons_cons _]

/-- A list of what the slots hold gains what slot `n` takes. -/
theorem filterMap_perm_of_taken {β : Type} {f g : Nat → Option β} {l : List Nat} (hl : l.Nodup) (hn : n ∈ l) (hf : f n = none)
    (h : ∀ m, m ≠ n → g m = f m) : (l.filterMap g).Perm ((g n).toList ++ l.filterMap f) := by
  induction l with
  | nil => exact absurd hn List.not_mem_nil
  | cons a l ih =>
    obtain ⟨ha, hl⟩ := List.nodup_cons.1 hl
    have hcons (k : Nat → Option β) : (a :: l).filterMap k = (k a).toList ++ l.filterMap k := by
      rw [List.filterMap_cons]
      cases k a <;> rfl
    rw [hcons g, hcons f]
    by_cases hna : a = n
    · subst hna
      have hrest : l.filterMap g = l.filterMap f := List.filterMap_congr fun m hm => h m fun hma => ha (hma ▸ hm)
      rw [hf, hrest]
      exact .refl _
    · rw [h a hna]
      exact ((ih hl ((List.mem_cons.1 hn).resolve_left fun e => hna e.symm)).append_left _).trans
        (List.perm_append_comm_assoc ..)

theorem StationSlot.reservation_passage {x : StationSlot} {p : Passage} (h : x.state = .passage p) :
    x.reservation = p.reservation := by
  rw [StationSlot.reservation, h]

theorem StationSlot.reservation_none {x : StationSlot} (h : ∀ p, x.state ≠ .passage p) : x.reservation = none := by
  unfold StationSlot.reservation
  split
  exacts [absurd ‹_› (h _), rfl]

theorem CarSlot.reservation_trip {x : CarSlot} {tr : Trip} (h : x.state = .trip tr) : x.reservation = tr.reservation := by
  rw [CarSlot.reservation, h]

theorem CarSlot.reservation_none {x : CarSlot} (h : ∀ tr, x.state ≠ .trip tr) : x.reservation = none := by
  unfold CarSlot.reservation
  split
  exacts [absurd ‹_› (h _), rfl]

/-- Where passages and trips only end, the reservations are some of those held before. -/
theorem State.Ends.reservations (h : s.Ends t) : t.reservations.Sublist s.reservations := by
  refine List.Sublist.append (filterMap_sublist_of_kept fun n _ => ?_) (filterMap_sublist_of_kept fun n _ => ?_)
  · by_cases hp : ∃ p, (t.station n).state = .passage p
    · obtain ⟨p, hp⟩ := hp
      obtain ⟨q, hq, hqp⟩ := h.1 n p hp
      exact .inr (by rw [StationSlot.reservation_passage hp, StationSlot.reservation_passage hq, hqp])
    · exact .inl (StationSlot.reservation_none fun p h => hp ⟨p, h⟩)
  · by_cases htr : ∃ tr, (t.car n).state = .trip tr
    · obtain ⟨tr, htr⟩ := htr
      exact .inr (by rw [CarSlot.reservation_trip htr, CarSlot.reservation_trip (h.2 n tr htr)])
    · exact .inl (CarSlot.reservation_none fun tr h => htr ⟨tr, h⟩)

/-- Station `n` takes a passage, with the reservation it holds. -/
theorem State.reservations_station (hn : n < 64) (hfree : (s.station n).reservation = none)
    (hstation : ∀ m, m ≠ n → (t.station m).reservation = (s.station m).reservation)
    (hcar : ∀ m, (t.car m).reservation = (s.car m).reservation) :
    t.reservations.Perm ((t.station n).reservation.toList ++ s.reservations) := by
  have hcars : (List.range Config.carCount).filterMap (fun m => (t.car m).reservation) =
      (List.range Config.carCount).filterMap (fun m => (s.car m).reservation) := List.filterMap_congr fun m _ => hcar m
  rw [State.reservations, State.reservations, hcars, ← List.append_assoc]
  exact (filterMap_perm_of_taken List.nodup_range (List.mem_range.2 hn) hfree hstation).append_right _

/-- Car `n` takes a trip, with the reservation it holds. -/
theorem State.reservations_car (hn : n < 4) (hfree : (s.car n).reservation = none)
    (hstation : ∀ m, (t.station m).reservation = (s.station m).reservation)
    (hcar : ∀ m, m ≠ n → (t.car m).reservation = (s.car m).reservation) :
    t.reservations.Perm ((t.car n).reservation.toList ++ s.reservations) := by
  have hstations : (List.range Config.stationCount).filterMap (fun m => (t.station m).reservation) =
      (List.range Config.stationCount).filterMap (fun m => (s.station m).reservation) :=
    List.filterMap_congr fun m _ => hstation m
  rw [State.reservations, State.reservations, hstations]
  exact ((filterMap_perm_of_taken List.nodup_range (List.mem_range.2 hn) hfree hcar).append_left _).trans
    (List.perm_append_comm_assoc ..)

/-! ### Grants -/

/-- The stages let a grant take this reservation: its tenant holds none, a place it holds is available, a claim allowed. -/
def State.Allows (s : State) (res : Option Reservation) : Prop :=
  ∀ r, res = some r → s.holdsReservation r.slot = false ∧ (r.place = true → s.placeAvailable = true) ∧
    ∀ f, r.claim = some f → s.claimAllowed f = true

/-- The engine's law for a new passage (R68). -/
def State.MayPass (s : State) (p : Passage) : Prop :=
  (p.kind = .entry ∨ p.kind = .zone → s.control.mode = .normal ∧ s.control.fireLatch = false) ∧
    (p.kind = .entry → ∃ h, p.holder = some h ∧ (s.tenant h.slot).state ≠ .overlocked ∧ (s.tenant h.slot).state ≠ .suspended)

/-- The engine's law for a new trip (R68). -/
def State.MayRide (s : State) (tr : Trip) : Prop :=
  s.control.fireLatch = false ∧ (s.control.mode = .fallback → tr.destination = 0)

/-- `t` is `s` after a grant: one reservation is added, where the stages allow it, and what newly stands obeys the law. -/
def State.Grants (s t : State) : Prop :=
  ∃ res, s.Allows res ∧ t.reservations.Perm (res.toList ++ s.reservations) ∧ t.roster = s.roster ∧
    (∀ n p, (t.station n).state = .passage p → (∃ q, (s.station n).state = .passage q) ∨ s.MayPass p) ∧
    ∀ n tr, (t.car n).state = .trip tr → (∃ q, (s.car n).state = .trip q) ∨ s.MayRide tr

theorem grants_reads : Reads (fun u => s.Grants u) [.stations, .cars, .roster] := by
  intro t u h hgrants
  obtain ⟨res, hallows, hres, hroster, hpass, hride⟩ := hgrants
  have hstation (n : Nat) : u.station n = t.station n := State.station_eq_of_stations (h .stations rfl) n
  have hcar (n : Nat) : u.car n = t.car n := State.car_eq_of_cars (h .cars rfl) n
  have hsame : u.reservations = t.reservations := by simp only [State.reservations, hstation, hcar]
  exact ⟨res, hallows, hsame ▸ hres, (h .roster rfl).trans hroster, fun n p hp => hpass n p (hstation n ▸ hp),
    fun n tr htr => hride n tr (hcar n ▸ htr)⟩

theorem refusal_eq_none {c : Prop} [Decidable c] {r : DenyReason} {rest : Option DenyReason} :
    (if c then some r else rest) = none ↔ ¬c ∧ rest = none := by
  split
  case isTrue h => exact iff_of_false nofun fun hn => hn.1 h
  case isFalse h => exact ⟨fun hrest => ⟨h, hrest⟩, And.right⟩

theorem Mode.eq_normal {m : Mode} (h : m ≠ .fallback) : m = .normal := by
  cases m
  exacts [rfl, absurd rfl h]

theorem State.floorReservation_allowed {i f : Nat} (hheld : ¬s.holdsReservation i = true)
    (hfull : ¬(¬s.presentOn i f = true ∧ ¬(s.floorLimit f = 0 ∨ s.occupancy f + 1 ≤ s.floorLimit f))) :
    s.Allows (some (s.floorReservation i f)) := by
  rintro r ⟨⟩
  refine ⟨(Bool.not_eq_true _).mp hheld, nofun, fun g hg => ?_⟩
  simp only [State.floorReservation] at hg
  split at hg
  · exact nomatch hg
  · obtain rfl := Option.some.inj hg
    rw [State.claimAllowed_iff]
    by_contra hno
    exact hfull ⟨‹_›, hno⟩

theorem State.entryReservation_allowed {i : Nat} (hheld : ¬s.holdsReservation i = true)
    (hroster : ¬(¬s.isPresent i = true ∧ ¬s.roster.length + s.placesHeld < 256))
    (hfull : ¬(¬s.presentOn i 0 = true ∧ ¬(s.floorLimit 0 = 0 ∨ s.occupancy 0 + 1 ≤ s.floorLimit 0))) :
    s.Allows (some (s.entryReservation i)) := by
  rintro r ⟨⟩
  obtain ⟨hslot, -, hclaim⟩ := State.floorReservation_allowed hheld hfull _ rfl
  refine ⟨hslot, fun hplace => ?_, hclaim⟩
  rw [State.placeAvailable_iff]
  by_contra hno
  exact hroster ⟨by simpa [State.entryReservation] using hplace, hno⟩

theorem State.entryDenial_eq_none {r : Request} {who : Option Nat} (h : s.entryDenial r who = none) :
    s.control.fireLatch = false ∧ s.control.mode = .normal ∧
      ∃ i, who = some i ∧ (s.tenant i).state ≠ .overlocked ∧ (s.tenant i).state ≠ .suspended ∧
        s.Allows (some (s.entryReservation i)) := by
  unfold State.entryDenial at h
  rw [refusal_eq_none, refusal_eq_none] at h
  obtain ⟨hfire, hmode, h⟩ := h
  refine ⟨by simpa using hfire, Mode.eq_normal hmode, ?_⟩
  cases who with
  | none => exact nomatch h
  | some i =>
    simp only [refusal_eq_none] at h
    obtain ⟨hsuspended, hoverlocked, -, -, -, -, hheld, hroster, hfull, -, -⟩ := h
    exact ⟨i, rfl, hoverlocked, hsuspended, State.entryReservation_allowed hheld hroster hfull⟩

theorem State.zoneDenial_eq_none {r : Request} {who : Option Nat} (h : s.zoneDenial r who = none) :
    s.control.fireLatch = false ∧ s.control.mode = .normal ∧
      ∃ i, who = some i ∧ s.Allows (some (s.floorReservation i r.config.floor)) := by
  unfold State.zoneDenial at h
  dsimp only at h
  rw [refusal_eq_none, refusal_eq_none] at h
  obtain ⟨hfire, hmode, h⟩ := h
  refine ⟨by simpa using hfire, Mode.eq_normal hmode, ?_⟩
  cases who with
  | none => exact nomatch h
  | some i =>
    simp only [refusal_eq_none] at h
    obtain ⟨-, -, -, -, -, hheld, hfull, -, -⟩ := h
    exact ⟨i, rfl, State.floorReservation_allowed hheld hfull⟩

theorem State.Allows.none : s.Allows none := nofun

theorem State.carDenial_eq_none {r : CarRequest} {who : Option Nat} (h : s.carDenial r who = none) :
    s.control.fireLatch = false ∧ (s.control.mode = .fallback → r.floor = 0) ∧
      s.Allows (if s.control.mode = .fallback then none else who.map fun i => s.floorReservation i r.floor) := by
  unfold State.carDenial at h
  dsimp only at h
  rw [refusal_eq_none] at h
  obtain ⟨hfire, h⟩ := h
  refine ⟨by simpa using hfire, ?_⟩
  by_cases hmode : s.control.mode = .fallback
  · rw [if_pos hmode] at h ⊢
    refine ⟨fun _ => ?_, .none⟩
    by_contra hfloor
    rw [if_neg hfloor] at h
    exact nomatch h
  · rw [if_neg hmode] at h ⊢
    refine ⟨fun hm => absurd hm hmode, ?_⟩
    cases who with
    | none => exact nomatch h
    | some i =>
      simp only [refusal_eq_none] at h
      obtain ⟨-, -, -, -, -, hheld, hfull, -⟩ := h
      exact State.floorReservation_allowed hheld hfull

/-- A grant at a station adds its passage, and leaves every other its reservation. -/
theorem State.grants_station {r : Request} (hn : n < 64) (hr : (s.station n).state = .pending r) {kind : PassageKind}
    {dest who : Option Nat} {res : Option Reservation} {pb : Prop} [Decidable pb] (h : s.grants t n r kind dest who res pb)
    (hallows : s.Allows res)
    (hmay : ∀ p : Passage, p.kind = kind → (∀ i, who = some i → ∃ x, p.holder = some x ∧ x.slot = i) → s.MayPass p) :
    s.Grants t := by
  obtain ⟨hslot, hothers, -, hframe⟩ := h
  have hfree : (s.station n).reservation = none := StationSlot.reservation_none fun p hp => nomatch hp.symm.trans hr
  have hcars (m : Nat) : t.car m = s.car m := State.car_eq_of_cars (by rw [hframe, State.logged_frame]) m
  have hroster : t.roster = s.roster := by rw [hframe, State.logged_frame]
  have hkept (m : Nat) (hm : m ≠ n) : (t.station m).reservation = (s.station m).reservation ∧
      ∀ p, (t.station m).state = .passage p → ∃ q, (s.station m).state = .passage q := by
    rw [hothers m hm]
    cases hst : (s.station m).state with
    | passage p =>
      dsimp only
      split
      · exact ⟨by rw [StationSlot.reservation_passage rfl, StationSlot.reservation_passage hst], fun _ _ => ⟨p, rfl⟩⟩
      · exact ⟨rfl, fun _ _ => ⟨p, rfl⟩⟩
    | _ => exact ⟨rfl, fun p hp => ⟨p, hst ▸ hp⟩⟩
  have hperm := State.reservations_station hn hfree (fun m hm => (hkept m hm).1) (fun m => by rw [hcars])
  rw [hslot, StationSlot.reservation_passage rfl] at hperm
  refine ⟨res, hallows, hperm, hroster, fun m p hp => ?_, fun m tr htr => .inl ⟨tr, hcars m ▸ htr⟩⟩
  by_cases hm : m = n
  · subst hm
    rw [hslot] at hp
    obtain rfl := SlotState.passage.inj hp
    exact .inr (hmay _ rfl fun i hi => ⟨_, by rw [hi]; rfl, rfl⟩)
  · exact .inl ((hkept m hm).2 p hp)

/-- A grant at a car adds its trip. -/
theorem State.grantCar_grants {r : CarRequest} (hn : n < 4) (hr : (s.car n).state = .pending r) {who : Option Nat}
    {res : Option Reservation} (hallows : s.Allows res) (hfire : s.control.fireLatch = false)
    (hfloor : s.control.mode = .fallback → r.floor = 0) : s.Grants (s.grantCar n r who res) := by
  have hcar (m : Nat) := s.grantCar_car n m r who res
  have hfree : (s.car n).reservation = none := CarSlot.reservation_none fun tr htr => nomatch htr.symm.trans hr
  have hperm := State.reservations_car (t := s.grantCar n r who res) hn hfree (fun m => rfl)
    (fun m hm => by rw [hcar, if_neg hm])
  rw [hcar, if_pos rfl, CarSlot.reservation_trip rfl] at hperm
  refine ⟨res, hallows, hperm, rfl, fun m p hp => .inl ⟨p, hp⟩, fun m tr htr => ?_⟩
  rw [hcar] at htr
  split at htr
  · obtain rfl := CarState.trip.inj htr
    exact .inr ⟨hfire, hfloor⟩
  · exact .inl ⟨tr, htr⟩

/-- A decision ends nothing and grants, or grants nothing. -/
theorem State.takeStation_grants (type : StationType) {judge : State → Nat → Request → State}
    (h : ∀ n r, n < 64 → (s.station n).state = .pending r → s.Ends (judge s n r) ∧ (judge s n r).roster = s.roster ∨
      s.Grants (judge s n r)) :
    s.Ends (s.takeStation type judge) ∧ (s.takeStation type judge).roster = s.roster ∨ s.Grants (s.takeStation type judge) := by
  unfold State.takeStation
  split
  case h_1 n r hw =>
    obtain ⟨hn, hr⟩ := State.nextWork_station_inv hw
    split
    exacts [h n r hn hr, .inl ⟨.refl s, rfl⟩]
  case h_2 => exact .inl ⟨.refl s, rfl⟩

theorem State.decideEntry_grants {r : Request} (hn : n < 64) (hr : (s.station n).state = .pending r) :
    s.Ends (s.decideEntry n r) ∧ (s.decideEntry n r).roster = s.roster ∨ s.Grants (s.decideEntry n r) := by
  unfold State.decideEntry
  dsimp only
  rw [State.entryStages_eq]
  generalize s.tenantOf r.credential = who
  cases hd : s.entryDenial r who with
  | some reason => exact .inl ⟨s.denyStation_ends n who reason, rfl⟩
  | none =>
    obtain ⟨hfire, hmode, i, rfl, hover, hsusp, hallows⟩ := State.entryDenial_eq_none hd
    refine .inr (State.grants_station hn hr (s.grantStation_grants n r _ _ _ _ Iff.rfl rfl) hallows fun p _ hholder => ?_)
    obtain ⟨x, hx, hslot⟩ := hholder i rfl
    exact ⟨fun _ => ⟨hmode, hfire⟩, fun _ => ⟨x, hx, hslot ▸ hover, hslot ▸ hsusp⟩⟩

theorem State.decideExit_grants {r : Request} (hn : n < 64) (hr : (s.station n).state = .pending r) :
    s.Ends (s.decideExit n r) ∧ (s.decideExit n r).roster = s.roster ∨ s.Grants (s.decideExit n r) := by
  unfold State.decideExit
  dsimp only
  split
  case h_1 reason _ => exact .inl ⟨s.denyStation_ends n _ reason, rfl⟩
  case h_2 =>
    refine .inr (State.grants_station hn hr (s.grantStation_grants n r _ _ _ _ Iff.rfl rfl) .none fun p hkind _ => ?_)
    exact ⟨fun h => by rw [hkind] at h; simp at h, fun h => nomatch hkind.symm.trans h⟩

theorem State.decideZone_grants {r : Request} (hn : n < 64) (hr : (s.station n).state = .pending r) :
    s.Ends (s.decideZone n r) ∧ (s.decideZone n r).roster = s.roster ∨ s.Grants (s.decideZone n r) := by
  unfold State.decideZone
  dsimp only
  rw [State.zoneStages_eq]
  generalize s.tenantOf r.credential = who
  cases hd : s.zoneDenial r who with
  | some reason => exact .inl ⟨s.denyStation_ends n who reason, rfl⟩
  | none =>
    obtain ⟨hfire, hmode, i, rfl, hallows⟩ := State.zoneDenial_eq_none hd
    refine .inr (State.grants_station hn hr (s.grantStation_grants n r _ _ _ _ Iff.rfl rfl) hallows fun p hkind _ => ?_)
    exact ⟨fun _ => ⟨hmode, hfire⟩, fun h => nomatch hkind.symm.trans h⟩

theorem State.nextWork_car_inv {r : CarRequest} (h : s.nextWork = some (.car n r)) : n < 4 ∧ (s.car n).state = .pending r := by
  unfold State.nextWork at h
  rw [Option.or_eq_some_iff, Option.or_eq_some_iff] at h
  rcases h with hcar | ⟨-, hstation | ⟨-, hrecord⟩⟩
  · obtain ⟨m, hlt, hm⟩ := List.exists_of_findSome?_eq_some hcar
    unfold State.carWork at hm
    split at hm
    case h_1 q hq =>
      injection hm with hm
      injection hm with hmn hqr
      rw [← hmn, ← hqr]
      exact ⟨List.mem_range.1 hlt, hq⟩
    case h_2 => exact nomatch hm
  · obtain ⟨m, -, hm⟩ := List.exists_of_findSome?_eq_some hstation
    unfold State.stationWork at hm
    split at hm <;> simp at hm
  · unfold State.recordWork at hrecord
    split at hrecord <;> simp at hrecord

theorem State.takeCar_grants (s : State) : s.Ends s.takeCar ∧ s.takeCar.roster = s.roster ∨ s.Grants s.takeCar := by
  unfold State.takeCar
  split
  case h_1 n r hw =>
    obtain ⟨hn, hr⟩ := State.nextWork_car_inv hw
    rw [State.decideCar_eq n r rfl]
    generalize s.tenantOf r.credential = who
    cases hd : s.carDenial r who with
    | some reason => exact .inl ⟨s.denyCar_ends n r who reason, rfl⟩
    | none =>
      obtain ⟨hfire, hfloor, hallows⟩ := State.carDenial_eq_none hd
      exact .inr (State.grantCar_grants hn hr hallows hfire hfloor)
  case h_2 => exact .inl ⟨.refl s, rfl⟩

theorem runEvent_grants {i : Instr} (hi : isDecision i = true) (s : State) :
    s.Ends (runEvent i s) ∧ (runEvent i s).roster = s.roster ∨ s.Grants (runEvent i s) := by
  cases i
  case entryDecision => exact State.takeStation_grants .entry fun _ _ => State.decideEntry_grants
  case exitDecision => exact State.takeStation_grants .exit fun _ _ => State.decideExit_grants
  case zoneDecision => exact State.takeStation_grants .zone fun _ _ => State.decideZone_grants
  case carDecision => exact s.takeCar_grants
  all_goals exact nomatch hi

end

end Sys2Proof.Machine
end

section
/-! What every step keeps of the roster: its records, its capacity, the reservations and the countdowns (chapter 3). -/

namespace Sys2Proof.Machine

set_option Elab.async false -- one thread for the file, as in the tests: a thread for each theorem reaches the memory limit

section
variable {s t u : State} {n : Nat}

/-! ### Operations on the records -/

theorem removePresence_slots (slot : Nat) (r : List Presence) :
    ((removePresence slot r).map (·.slot)).Sublist (r.map (·.slot)) := List.filter_sublist.map _

/-- What a completion makes of the roster (R49 to R51): who arrives was absent, and found a place. -/
inductive Arrives (s : State) (r : Option Reservation) : List Presence → Prop
  | same : Arrives s r s.roster
  | moved (slot f : Nat) : Arrives s r (rosterMoved slot f s.roster)
  | left (slot : Nat) : Arrives s r (removePresence slot s.roster)
  | entered (slot : Nat) (habsent : s.isPresent slot = false)
      (hplace : placeOf r = true ∨ s.roster.length + s.placesHeld < 256) : Arrives s r (s.roster ++ [s.arrival slot])

theorem State.enter_arrives {r : Option Reservation} {slot : Nat}
    (hplace : s.isPresent slot = false → placeOf r = true ∨ s.roster.length + s.placesHeld < 256) :
    Arrives s r (s.enter slot).roster := by
  have harrival : ({ slot, arrival := s.clock.minute, floor := 0
                     state := (arrivalState (s.tenant slot).role s.clock.phase).1
                     countdown := (arrivalState (s.tenant slot).role s.clock.phase).2 } : Presence) = s.arrival slot := by
    unfold State.arrival arrivalState
    cases (s.tenant slot).role <;> cases s.clock.phase <;> rfl
  unfold State.enter
  split
  case isTrue => exact .moved slot 0
  case isFalse habsent =>
    have hentered := Arrives.entered (s := s) slot (by simpa using habsent) (hplace (by simpa using habsent))
    rw [← harrival] at hentered
    dsimp only
    split <;> exact hentered

theorem State.complete_arrives (s : State) (kind : CompletionKind) (h : Option Holder) (r : Option Reservation) (dest : Nat)
    (subject : Subject) (done : Event) : Arrives s r (s.complete kind h r dest subject done).roster := by
  unfold State.complete
  split
  case h_1 => exact .same
  case h_2 h =>
    split
    case isTrue => exact .same
    case isFalse hpasses =>
      rw [(State.armingHandoff_only _ kind h.slot (s.isPresent h.slot)) .roster rfl,
        (State.append_only _ done) .roster rfl]
      cases kind with
      | entry =>
        refine State.enter_arrives fun habsent => ?_
        by_contra hno
        simp only [not_or, Bool.not_eq_true, Nat.not_lt] at hno
        refine hpasses ?_
        simp [State.isOrphan, habsent, hno.1, Config.rosterCapacity, hno.2]
      | exit => exact .left h.slot
      | zone | alight => exact .moved h.slot dest

/-! ### The capacity (R41, R45) -/

/-- One record per slot; records and places held within the capacity. -/
def State.capacityLaw (s : State) : Prop := s.slots.Nodup ∧ s.roster.length + s.placesHeld ≤ 256

theorem State.length_slots (s : State) : s.slots.length = s.roster.length := List.length_map ..

/-- Records and reservations only go. -/
theorem State.Ends.capacityLaw (h : s.Ends t) (hroster : t.slots.Sublist s.slots) (hs : s.capacityLaw) : t.capacityLaw := by
  refine ⟨hs.1.sublist hroster, ?_⟩
  have hlength := hroster.length_le
  rw [State.length_slots, State.length_slots] at hlength
  exact (Nat.add_le_add hlength (h.reservations.countP_le)).trans hs.2

/-- A completion: who arrives takes a place free, or the one that the reservation held (R48). -/
theorem Arrives.capacityLaw {r : Option Reservation} (h : Arrives s r t.roster)
    (hres : s.reservations.Perm (r.toList ++ t.reservations)) (hs : s.capacityLaw) : t.capacityLaw := by
  obtain ⟨hnodup, hcapacity⟩ := hs
  have hheld : s.placesHeld = r.toList.countP (·.place) + t.placesHeld := by
    rw [State.placesHeld, hres.countP_eq, List.countP_append, State.placesHeld]
  unfold State.capacityLaw State.slots at *
  generalize hr : t.roster = roster at h
  cases h with
  | same => exact ⟨hnodup, by omega⟩
  | moved slot f =>
    rw [rosterMoved_slots]
    exact ⟨hnodup, by rw [show (rosterMoved slot f s.roster).length = s.roster.length from List.length_map ..]; omega⟩
  | left slot =>
    have hlength : (removePresence slot s.roster).length ≤ s.roster.length := List.length_filter_le ..
    exact ⟨hnodup.sublist (removePresence_slots slot s.roster), by omega⟩
  | entered slot habsent hplace =>
    refine ⟨?_, ?_⟩
    · rw [List.map_append, List.nodup_append_comm]
      refine List.nodup_cons.2 ⟨fun hmem => ?_, hnodup⟩
      have hpresent := (s.isPresent_iff slot).2 hmem
      rw [habsent] at hpresent
      exact nomatch hpresent
    · rw [List.length_append]
      rcases hplace with hplace | hplace
      · cases r with
        | none => exact nomatch hplace
        | some r =>
          have hone : (some r).toList.countP (·.place) = 1 := by
            rw [Option.toList_some, List.countP_singleton, if_pos (show r.place = true from hplace)]
          rw [List.length_singleton]
          omega
      · rw [List.length_singleton]
        omega

/-- A grant takes a place that is available, and of a tenant who holds none (R43, R45). -/
theorem State.Grants.capacityLaw (h : s.Grants t) (hs : s.capacityLaw) : t.capacityLaw := by
  obtain ⟨res, hallows, hres, hroster, -⟩ := h
  refine ⟨by rw [State.slots, hroster]; exact hs.1, ?_⟩
  rw [hroster, State.placesHeld, hres.countP_eq, List.countP_append]
  cases res with
  | none => simpa [State.placesHeld] using hs.2
  | some r =>
    rw [Option.toList_some, List.countP_singleton]
    split
    case isTrue hplace =>
      have := s.placeAvailable_iff.1 ((hallows r rfl).2.1 hplace)
      simp only [State.placesHeld] at this
      omega
    case isFalse => simpa [State.placesHeld] using hs.2

theorem State.Grants.reservationLaw (h : s.Grants t) (hs : s.reservationLaw) : t.reservationLaw := by
  obtain ⟨res, hallows, hres, -⟩ := h
  refine ((hres.map _).nodup_iff).2 ?_
  rw [List.map_append]
  cases res with
  | none => exact hs
  | some r =>
    refine List.nodup_cons.2 ⟨fun hmem => ?_, hs⟩
    obtain ⟨q, hq, hslot⟩ := List.mem_map.1 hmem
    have hheld : s.holdsReservation r.slot = true := List.any_eq_true.2 ⟨q, hq, by simp [hslot]⟩
    rw [(hallows r rfl).1] at hheld
    exact nomatch hheld

theorem State.Ends.reservationLaw (h : s.Ends t) (hs : s.reservationLaw) : t.reservationLaw := hs.sublist (h.reservations.map _)

theorem State.reservations_congr (hst : t.stations = s.stations) (hca : t.cars = s.cars) : t.reservations = s.reservations := by
  simp only [State.reservations, State.station_eq_of_stations hst, State.car_eq_of_cars hca]

theorem reservationLaw_reads : Reads State.reservationLaw [.stations, .cars] := fun s t h hs => by
  rwa [State.reservationLaw, State.reservations_congr (h .stations rfl) (h .cars rfl)]

theorem exec_reservationLaw : ∀ (i : Instr) (s t : State), s.reservationLaw → exec i s = .next t → t.reservationLaw :=
  exec_keeps reservationLaw_reads rfl
    (fun c l args s _ _ hs => (runCommand_ends c l args s).reservationLaw hs)
    (fun c bytes m s hr _ hs => (endRead_ends c bytes m s hr).reservationLaw hs)
    (fun i s _ hs => by
      cases hi : isDecision i with
      | false => exact (runEvent_ends i s hi).reservationLaw hs
      | true =>
        rcases runEvent_grants hi s with ⟨hends, -⟩ | hgrants
        exacts [hends.reservationLaw hs, hgrants.reservationLaw hs])

/-! ### Completions of passages and trips -/

theorem State.completePassage_capacityLaw (hs : s.capacityLaw) (hn : n < 64) {p : Passage}
    (hp : (s.station n).state = .passage p) : (s.completePassage n p).capacityLaw := by
  have harrives := s.complete_arrives p.kind.completion p.holder p.reservation (p.destination.getD 0) (.station n) (p.doneEvent n)
  have ho := s.complete_only p.kind.completion p.holder p.reservation (p.destination.getD 0) (.station n) (p.doneEvent n)
  unfold State.completePassage
  generalize s.complete p.kind.completion p.holder p.reservation (p.destination.getD 0) (.station n) (p.doneEvent n) = c at *
  have hstation (m : Nat) : (c.endPassage n p .ready).station m = if m = n then { c.station n with state := .ready } else s.station m := by
    refine (State.detach_station _ n p.channel m).trans ((State.setStation_station ..).trans ?_)
    rw [State.station_eq_of_stations (ho .stations rfl) m]
  have hends := State.endPassage_only c n p .ready
  have hres : s.reservations.Perm ((s.station n).reservation.toList ++ (c.endPassage n p .ready).reservations) := by
    refine State.reservations_station hn ?_ (fun m hm => ?_) fun m => ?_
    · rw [hstation, if_pos rfl]
      rfl
    · rw [hstation, if_neg hm]
    · rw [State.car_eq_of_cars (hends .cars rfl), State.car_eq_of_cars (ho .cars rfl)]
  rw [StationSlot.reservation_passage hp] at hres
  rw [← hends .roster rfl] at harrives
  exact harrives.capacityLaw hres hs

theorem State.completeTrip_capacityLaw (hs : s.capacityLaw) (hn : n < 4) {tr : Trip} (htr : (s.car n).state = .trip tr) :
    (s.completeTrip n tr).capacityLaw := by
  have harrives := s.complete_arrives .alight tr.holder tr.reservation tr.destination (.car n) (.tripDone tr.destination n tr.tenant)
  have ho := s.complete_only .alight tr.holder tr.reservation tr.destination (.car n) (.tripDone tr.destination n tr.tenant)
  unfold State.completeTrip
  generalize s.complete .alight tr.holder tr.reservation tr.destination (.car n) (.tripDone tr.destination n tr.tenant) = c at *
  have hcar (m : Nat) : (c.setCarState n .idle).car m = if m = n then { c.car n with state := .idle } else s.car m := by
    refine (State.setCar_car ..).trans ?_
    rw [State.car_eq_of_cars (ho .cars rfl) m]
  have hres : s.reservations.Perm ((s.car n).reservation.toList ++ (c.setCarState n .idle).reservations) := by
    refine State.reservations_car hn ?_ (fun m => ?_) fun m hm => ?_
    · rw [hcar, if_pos rfl]
      rfl
    · exact congrArg _ (State.station_eq_of_stations (ho .stations rfl) m).symm
    · rw [hcar, if_neg hm]
  rw [CarSlot.reservation_trip htr] at hres
  exact Arrives.capacityLaw (t := c.setCarState n .idle) harrives hres hs

theorem State.gateClosed_capacityLaw (hs : s.capacityLaw) (hexists : s.flightLaw False) (c : Nat) :
    (s.gateClosed c).capacityLaw := by
  have hclosed : (s.channelClosed c).flightLaw False := by
    rw [State.channelClosed_eq]
    exact State.logged_flightLaw (State.setChannel_flightLaw hexists (s.channel c).closed_carried) _
  have ho := s.channelClosed_only c
  have hcapacity : (s.channelClosed c).capacityLaw := ho.ends.capacityLaw (by rw [State.slots, ho .roster rfl]; exact .refl _) hs
  show ((s.channelClosed c).handClosed c).capacityLaw
  generalize s.channelClosed c = v at *
  unfold State.handClosed State.withCarried
  split
  · exact hcapacity
  case h_2 n hcarry =>
    split
    case h_1 p hp =>
      dsimp only
      split
      exacts [State.completePassage_capacityLaw hcapacity (hclosed.1 c n hcarry) hp, hcapacity]
    case h_2 => exact hcapacity

/-! ### The capacity, of every step -/

theorem runCommand_capacityLaw (c : Command) (l : Lines) (args : List Byte) (hs : s.capacityLaw) :
    (runCommand c l args s).2.capacityLaw := by
  have hends := runCommand_ends c l args s
  have ho := runCommand_only c l args s
  have kept (h : (runCommand c l args s).2.slots.Sublist s.slots) := hends.capacityLaw h hs
  have same (h : (runCommand c l args s).2.slots = s.slots) := kept (h ▸ .refl _)
  cases c
  case setClock =>
    refine same ?_
    show (runSetClock args s).2.slots = s.slots
    rw [runSetClock_eq]
    split
    exacts [rfl, (State.evaluatePhase_slots _ _).trans rfl]
  case presenceRemove =>
    refine kept ?_
    rcases runPresenceRemove_cases args s with h | ⟨p, -, h⟩
    · rw [show (runCommand .presenceRemove l args s).2 = s from h]
    · have hroster : (s.removeByHand p).roster = removePresence p.slot s.roster :=
        (State.exitHandoff_only _ p.slot) .roster rfl
      rw [show (runCommand .presenceRemove l args s).2 = s.removeByHand p from h, State.slots, hroster]
      exact removePresence_slots p.slot s.roster
  case overstayAck =>
    refine same ?_
    show (runOverstayAck args s).2.slots = s.slots
    unfold runOverstayAck
    dsimp only
    split
    · rfl
    split
    · rfl
    refine answer_keeps (P := fun t => t.slots = s.slots) rfl ?_
    refine (List.map_map ..).trans (List.map_congr_left fun p _ => ?_)
    dsimp only [Function.comp]
    split <;> rfl
  case passed => exact endByField_keeps hs fun n p hn hp _ => State.completePassage_capacityLaw hs hn hp
  case carAlight => exact endByLift_keeps hs fun n tr hn htr => State.completeTrip_capacityLaw hs hn htr
  all_goals exact same (congrArg (List.map _) (ho .roster rfl))

theorem runEvent_capacityLaw (i : Instr) (hs : s.capacityLaw) (hexists : s.flightLaw False) : (runEvent i s).capacityLaw := by
  have ho := runEvent_only i s
  have kept (hi : isDecision i = false) (h : (runEvent i s).slots.Sublist s.slots) := (runEvent_ends i s hi).capacityLaw h hs
  have same (hi : isDecision i = false) (h : (runEvent i s).slots = s.slots) := kept hi (h ▸ .refl _)
  have decided (hi : isDecision i = true) : (runEvent i s).capacityLaw := by
    rcases runEvent_grants hi s with ⟨hends, hroster⟩ | hgrants
    · exact hends.capacityLaw (by rw [State.slots, hroster]; exact .refl _) hs
    · exact hgrants.capacityLaw hs
  have cold (l : Lines) (f : Bool) : (s.coldStart.restart .cold l f).slots.Sublist s.slots := by
    rw [State.slots, (s.coldStart.restart_only .cold l f) .roster rfl]
    exact List.nil_sublist _
  cases i
  case entryDecision | exitDecision | zoneDecision | carDecision => exact decided rfl
  case gateContactClose c =>
    show (if (s.channel c).gateOpen then s.gateClosed c else s).capacityLaw
    split
    exacts [State.gateClosed_capacityLaw hs hexists c, hs]
  case secondTick => exact same rfl s.secondTick_slots
  case minuteTick => exact same rfl s.minuteTick_slots
  case coldReset l b => exact kept rfl (cold l !b)
  case retentionReset l b =>
    refine kept rfl ?_
    show (s.powerReturns l b).slots.Sublist s.slots
    rw [State.powerReturns_eq]
    split
    · rw [State.slots, (s.retentionReset_only l b) .roster rfl]
      exact .refl _
    · exact cold l !b
  all_goals exact same rfl (congrArg (List.map _) (ho .roster rfl))

theorem State.rosterLaw_iff (s : State) : s.rosterLaw ↔ s.capacityLaw ∧ s.flightLaw False := by
  constructor
  · rintro ⟨hnodup, hcapacity, hexists⟩
    exact ⟨⟨hnodup, hcapacity⟩, hexists, nofun⟩
  · rintro ⟨⟨hnodup, hcapacity⟩, hexists, -⟩
    exact ⟨hnodup, hcapacity, hexists⟩

theorem rosterLaw_reads : Reads (fun s => s.capacityLaw ∧ s.flightLaw False) [.roster, .stations, .cars, .channels] := by
  intro s t h hs
  obtain ⟨⟨hnodup, hcapacity⟩, hexists⟩ := hs
  refine ⟨⟨?_, ?_⟩, State.flightLaw_congr (s := s) (fun c => by rw [State.channel_eq_of_channels (h .channels rfl)])
    (fun m => by rw [State.station_eq_of_stations (h .stations rfl)]) hexists⟩
  · rwa [State.slots, h .roster rfl]
  · rwa [State.placesHeld, State.reservations_congr (h .stations rfl) (h .cars rfl), h .roster rfl]

theorem exec_rosterLaw (i : Instr) (s t : State) (hs : s.rosterLaw) (h : exec i s = .next t) : t.rosterLaw := by
  rw [State.rosterLaw_iff] at *
  refine exec_keeps (P := fun s => s.capacityLaw ∧ s.flightLaw False) rosterLaw_reads rfl
    (fun c l args s _ _ hs => ⟨runCommand_capacityLaw c l args hs.1, runCommand_flightLaw c l args hs.2⟩)
    (fun c bytes m s hr _ hs => ⟨(endRead_ends c bytes m s hr).capacityLaw ?_ hs.1, endRead_flightLaw c bytes m hr hs.2⟩)
    (fun i s _ hs => ⟨runEvent_capacityLaw i hs.1 hs.2, runEvent_flightLaw i hs.2⟩) i s t hs h
  rw [State.slots, (endRead_only c bytes m s) .roster (by cases c <;> first | rfl | exact nomatch hr)]
  exact .refl _

/-! ### The closing countdowns (R53, R54) -/

/-- Every countdown is the grace counter, of a record ON_SITE; the clock's fields are in their ranges. -/
def State.timeLaw (s : State) : Prop := s.countdownLaw ∧ s.clockLaw

theorem State.timeLaw_of (hclock : t.clock = s.clock)
    (hroster : ∀ p ∈ t.roster, ∀ k, p.countdown = some k → s.clock.phase = .closing k ∧ p.state = .onSite) (hs : s.timeLaw) :
    t.timeLaw := by
  unfold State.timeLaw State.countdownLaw State.clockLaw
  rw [hclock]
  exact ⟨hroster, hs.2⟩

theorem timeLaw_reads : Reads State.timeLaw [.clock, .roster] := fun s t h hs =>
  State.timeLaw_of (h .clock rfl) (fun p hp => hs.1 p (by rwa [h .roster rfl] at hp)) hs

theorem State.arrival_countdown {slot k : Nat} (h : (s.arrival slot).countdown = some k) :
    s.clock.phase = .closing k ∧ (s.arrival slot).state = .onSite := by
  unfold State.arrival at *
  dsimp only at *
  split at h
  · cases hphase : s.clock.phase with
    | closing g =>
      rw [hphase] at h
      obtain rfl := Option.some.inj h
      exact ⟨rfl, by simp⟩
    | _ =>
      rw [hphase] at h
      exact nomatch h
  · exact nomatch h

theorem Arrives.timeLaw {r : Option Reservation} (h : Arrives s r t.roster) (hclock : t.clock = s.clock) (hs : s.timeLaw) :
    t.timeLaw := by
  refine State.timeLaw_of hclock ?_ hs
  generalize t.roster = roster at h
  cases h with
  | same => exact hs.1
  | moved slot f =>
    intro p hp
    obtain ⟨q, hq, rfl⟩ := List.mem_map.1 hp
    split
    exacts [hs.1 q hq, hs.1 q hq]
  | left slot => exact fun p hp => hs.1 p (List.mem_of_mem_filter hp)
  | entered slot =>
    intro p hp k hk
    rcases List.mem_append.1 hp with hold | hnew
    · exact hs.1 p hold k hk
    · obtain rfl := List.mem_singleton.1 hnew
      exact State.arrival_countdown hk

theorem State.grace_le (s : State) : s.grace ≤ 120 := clamp_le (by decide)

theorem State.closeEvent_timeLaw (hphase : s.clock.phase = .opened) (hs : s.timeLaw) : s.closeEvent.timeLaw := by
  obtain ⟨-, hclock, hroster, -⟩ := s.closeEvent_eq s.clock s.log
  replace hclock : s.closeEvent.clock = _ := hclock
  replace hroster : s.closeEvent.roster = _ := hroster
  have huncounted (q : Presence) (hq : q ∈ s.roster) (k : Nat) (hk : q.countdown = some k) : False :=
    nomatch hphase.symm.trans (hs.1 q hq k hk).1
  obtain ⟨-, hminute, hseconds, -⟩ := hs
  refine ⟨fun p hp k hk => ?_, ?_⟩
  · rw [hclock]
    rw [hroster] at hp
    obtain ⟨q, hq, rfl⟩ := List.mem_map.1 hp
    split at hk
    case isTrue htimed =>
      rw [if_pos htimed]
      split at hk
      case isTrue => exact nomatch hk
      case isFalse hgrace =>
        obtain rfl := Option.some.inj hk
        rw [if_neg hgrace, if_neg hgrace]
        exact ⟨rfl, htimed.2⟩
    case isFalse => exact (huncounted q hq k hk).elim
  · unfold State.clockLaw
    rw [hclock]
    refine ⟨hminute, hseconds, fun g hg => ?_⟩
    dsimp only at hg
    split at hg
    case isTrue => exact nomatch hg
    case isFalse hgrace =>
      obtain rfl := Phase.closing.inj hg
      exact ⟨Nat.pos_of_ne_zero hgrace, s.grace_le⟩

theorem State.openEvent_timeLaw (hs : s.timeLaw) : s.openEvent.timeLaw := by
  obtain ⟨-, hclock, hroster, -⟩ := s.openEvent_eq s.clock s.log
  replace hclock : s.openEvent.clock = _ := hclock
  replace hroster : s.openEvent.roster = _ := hroster
  obtain ⟨-, hminute, hseconds, -⟩ := hs
  refine ⟨fun p hp k hk => ?_, ?_⟩
  · rw [hroster] at hp
    obtain ⟨q, -, rfl⟩ := List.mem_map.1 hp
    exact nomatch hk
  · unfold State.clockLaw
    rw [hclock]
    exact ⟨hminute, hseconds, nofun⟩

theorem State.closingTick_timeLaw {g : Nat} (hphase : s.clock.phase = .closing g) (hs : s.timeLaw) : (s.closingTick g).timeLaw := by
  have htick : s.closingTick g = _ := s.closingTick_eq s.clock g
  obtain ⟨hcount, hminute, hseconds, hrange⟩ := hs
  obtain ⟨hpos, hle⟩ := hrange g hphase
  rw [htick]
  refine ⟨fun p hp k hk => ?_, hminute, hseconds, fun h hh => ?_⟩
  · obtain ⟨q, hq, rfl⟩ := List.mem_map.1 hp
    cases hc : q.countdown with
    | none =>
      simp only [hc] at hk
      exact nomatch hk
    | some c =>
      obtain ⟨hcphase, honsite⟩ := hcount q hq c hc
      obtain rfl := Phase.closing.inj (hphase.symm.trans hcphase)
      simp only [hc] at hk ⊢
      split at hk
      case isTrue => exact nomatch hk
      case isFalse hlate =>
        obtain rfl := Option.some.inj hk
        rw [if_neg hlate, if_neg hlate]
        exact ⟨rfl, honsite⟩
  · dsimp only at hh
    split at hh
    case isTrue => exact nomatch hh
    case isFalse hlate =>
      obtain rfl := Phase.closing.inj hh
      omega

theorem State.evaluatePhase_timeLaw (hs : s.timeLaw) (tick : Bool) : (s.evaluatePhase tick).timeLaw := by
  unfold State.evaluatePhase
  split
  case h_1 => exact hs
  case h_2 hphase _ => exact State.closeEvent_timeLaw hphase hs
  case h_3 => exact State.openEvent_timeLaw hs
  case h_4 g hphase _ =>
    split
    exacts [State.closingTick_timeLaw hphase hs, hs]
  case h_5 => exact State.openEvent_timeLaw hs
  case h_6 => exact hs

/-- The clock is set to a minute of the week and a second, in the same phase. -/
theorem State.setClock_timeLaw (hs : s.timeLaw) {m k : Nat} (hm : m < 10080) (hk : k < 60) :
    (s.setClock { s.clock with minute := m, seconds := k }).timeLaw := ⟨hs.1, hm, hk, hs.2.2.2⟩

theorem nextMinute_lt (m : Nat) : nextMinute m < 10080 := by
  unfold nextMinute
  split
  exacts [‹_›, by decide]

theorem State.minuteTick_timeLaw (hs : s.timeLaw) : s.minuteTick.timeLaw := by
  have hcounted := State.setClock_timeLaw hs (nextMinute_lt s.clock.minute) (k := 0) (by decide)
  unfold State.minuteTick
  dsimp only
  split_ifs
  exacts [State.evaluatePhase_timeLaw hcounted true, hcounted, hs]

theorem State.completePassage_timeLaw (hs : s.timeLaw) (n : Nat) (p : Passage) : (s.completePassage n p).timeLaw := by
  have ho := s.complete_only p.kind.completion p.holder p.reservation (p.destination.getD 0) (.station n) (p.doneEvent n)
  exact (State.endPassage_only _ n p .ready).keeps timeLaw_reads rfl ((s.complete_arrives ..).timeLaw (ho .clock rfl) hs)

theorem State.completeTrip_timeLaw (hs : s.timeLaw) (n : Nat) (tr : Trip) : (s.completeTrip n tr).timeLaw := by
  have ho := s.complete_only .alight tr.holder tr.reservation tr.destination (.car n) (.tripDone tr.destination n tr.tenant)
  exact (State.setCar_only _ n _).keeps timeLaw_reads rfl ((s.complete_arrives ..).timeLaw (ho .clock rfl) hs)

theorem runOverstayAck_timeLaw (hs : s.timeLaw) (args : List Byte) : (runOverstayAck args s).2.timeLaw := by
  unfold runOverstayAck
  dsimp only
  split
  · exact hs
  split
  · exact hs
  refine answer_keeps hs (State.timeLaw_of (s := s) rfl (fun p hp k hk => ?_) hs)
  obtain ⟨q, hq, rfl⟩ := List.mem_map.1 hp
  split at hk
  case isTrue => exact nomatch hk
  case isFalse hother =>
    rw [if_neg hother]
    exact hs.1 q hq k hk

theorem runCommand_timeLaw (c : Command) (l : Lines) (args : List Byte) (hs : s.timeLaw) : (runCommand c l args s).2.timeLaw := by
  have ho := runCommand_only c l args s
  cases c
  case setClock =>
    show (runSetClock args s).2.timeLaw
    rw [runSetClock_eq]
    split
    case isTrue => exact hs
    case isFalse hm =>
      exact State.evaluatePhase_timeLaw ((State.append_only _ _).keeps timeLaw_reads rfl
        (State.setClock_timeLaw hs (Nat.not_le.1 hm) (by decide))) _
  case presenceRemove =>
    rcases runPresenceRemove_cases args s with h | ⟨p, -, h⟩
    · rwa [show (runCommand .presenceRemove l args s).2 = s from h]
    · rw [show (runCommand .presenceRemove l args s).2 = s.removeByHand p from h]
      refine (State.exitHandoff_only _ p.slot).keeps timeLaw_reads rfl ?_
      exact Arrives.timeLaw (s := s) (Arrives.left p.slot (r := none)) rfl hs
  case overstayAck => exact runOverstayAck_timeLaw hs args
  case passed => exact endByField_keeps hs fun n p _ _ _ => State.completePassage_timeLaw hs n p
  case carAlight => exact endByLift_keeps hs fun n tr _ _ => State.completeTrip_timeLaw hs n tr
  all_goals exact ho.keeps timeLaw_reads rfl hs

theorem State.gateClosed_timeLaw (hs : s.timeLaw) (c : Nat) : (s.gateClosed c).timeLaw := by
  have hclosed : (s.channelClosed c).timeLaw := (s.channelClosed_only c).keeps timeLaw_reads rfl hs
  show ((s.channelClosed c).withCarried c _).timeLaw
  unfold State.withCarried
  split
  · exact hclosed
  split
  · dsimp only
    split
    exacts [State.completePassage_timeLaw hclosed _ _, hclosed]
  · exact hclosed

theorem State.coldStart_timeLaw (s : State) : s.coldStart.timeLaw := by
  obtain ⟨-, -, -, -, -, -, -, -, -, hclock, -⟩ := lawsHoldAtReset
  exact ⟨nofun, hclock⟩

theorem runEvent_timeLaw (i : Instr) (hs : s.timeLaw) : (runEvent i s).timeLaw := by
  have ho := runEvent_only i s
  have cold (l : Lines) (f : Bool) : (s.coldStart.restart .cold l f).timeLaw :=
    (s.coldStart.restart_only .cold l f).keeps timeLaw_reads rfl s.coldStart_timeLaw
  cases i
  case gateContactClose c =>
    show (if (s.channel c).gateOpen then s.gateClosed c else s).timeLaw
    split
    exacts [State.gateClosed_timeLaw hs c, hs]
  case secondTick =>
    show s.secondTick.timeLaw
    unfold State.secondTick
    split
    · split
      case isTrue h => exact State.setClock_timeLaw hs hs.2.1 (by omega)
      case isFalse => exact State.minuteTick_timeLaw hs
    · exact hs
  case minuteTick => exact State.minuteTick_timeLaw hs
  case coldReset l b => exact cold l !b
  case retentionReset l b =>
    show (s.powerReturns l b).timeLaw
    rw [State.powerReturns_eq]
    split
    exacts [(s.retentionReset_only l b).keeps timeLaw_reads rfl hs, cold l !b]
  all_goals exact ho.keeps timeLaw_reads rfl hs

theorem exec_timeLaw : ∀ (i : Instr) (s t : State), s.timeLaw → exec i s = .next t → t.timeLaw :=
  exec_keeps timeLaw_reads rfl (fun c l args _ _ _ hs => runCommand_timeLaw c l args hs)
    (fun c bytes m s hr _ hs => (endRead_only c bytes m s).keeps timeLaw_reads (by cases c <;> first | rfl | exact nomatch hr) hs)
    (fun i _ _ hs => runEvent_timeLaw i hs)

/-- Settles O50: the capacity and the reservations by what ends and what is granted, the countdowns by the phase's events. -/
theorem rosterKeepsItsLaws : Obligations.RosterKeepsItsLaws := ⟨exec_rosterLaw, exec_reservationLaw, exec_timeLaw⟩

end

end Sys2Proof.Machine
end

section
/-! The law of the decision engine and of floor occupancy over every event (R46, R68). -/

namespace Sys2Proof.Machine

set_option Elab.async false -- one thread for the file, as in the tests: a thread for each theorem reaches the memory limit

section
variable {s t : State}

theorem ends_reads : Reads (fun u => s.Ends u) [.stations, .cars] := fun t u h hends =>
  ⟨fun n p hp => hends.1 n p (by rwa [State.station_eq_of_stations (h .stations rfl)] at hp),
    fun n tr htr => hends.2 n tr (by rwa [State.car_eq_of_cars (h .cars rfl)] at htr)⟩

/-- An event only ends passages and trips, or it is a grant. -/
theorem exec_ends_or_grants {i : Instr} (h : exec i s = .next t) : s.Ends t ∨ s.Grants t := by
  obtain ⟨u, htook, hengine⟩ := exec_took i s t h
  refine Or.imp (hengine.1.keeps ends_reads rfl) (hengine.1.keeps grants_reads rfl) ?_
  cases htook with
  | idle => exact .inl (.refl s)
  | command c l args => exact .inl (runCommand_ends c l args s)
  | read c bytes m hr => exact .inl (endRead_ends c bytes m s hr)
  | event =>
    cases hi : isDecision i with
    | false => exact .inl (runEvent_ends i s hi)
    | true => exact (runEvent_grants hi s).imp And.left id

/-- A grant's claim keeps the occupancy within the floor's limit (R46). -/
theorem State.Grants.occupancy_le (h : s.Grants t) {f : Nat} (hlimit : s.floorLimit f ≠ 0) :
    t.occupancy f ≤ max (s.occupancy f) (s.floorLimit f) := by
  obtain ⟨res, hallows, hres, hroster, -⟩ := h
  have hclaims : t.claimsOn f = res.toList.countP (fun r => r.claim == some f) + s.claimsOn f := by
    rw [State.claimsOn, hres.countP_eq, List.countP_append, State.claimsOn]
  have hoccupancy : t.occupancy f = res.toList.countP (fun r => r.claim == some f) + s.occupancy f := by
    rw [State.occupancy, State.occupancy, hroster, hclaims]
    omega
  rw [hoccupancy]
  cases res with
  | none =>
    rw [Option.toList_none, List.countP_nil, Nat.zero_add]
    exact Nat.le_max_left ..
  | some r =>
    rw [Option.toList_some, List.countP_singleton]
    split
    case isTrue hclaim =>
      have hallowed := (s.claimAllowed_iff f).1 ((hallows r rfl).2.2 f (by simpa using hclaim))
      exact (Nat.add_comm .. ▸ hallowed.resolve_left hlimit).trans (Nat.le_max_right ..)
    case isFalse =>
      rw [Nat.zero_add]
      exact Nat.le_max_left ..

/-- Settles O58: what newly stands was granted, by stages that keep the law. -/
theorem grantsObeyTheEngineLaw : Obligations.GrantsObeyTheEngineLaw := by
  intro i s t h
  rcases exec_ends_or_grants h with hends | hgrants
  · refine ⟨fun n p hp hnew => ?_, fun n tr htr hnew => ?_⟩
    · obtain ⟨q, hq, -⟩ := hends.1 n p hp
      exact absurd hq (hnew q)
    · exact absurd (hends.2 n tr htr) (hnew tr)
  · have hkept (f : Nat) := hgrants.occupancy_le (f := f)
    obtain ⟨-, -, -, -, hpass, hride⟩ := hgrants
    refine ⟨fun n p hp hnew => ?_, fun n tr htr hnew => ?_⟩
    · obtain ⟨hmode, hholder⟩ := (hpass n p hp).resolve_left fun ⟨q, hq⟩ => hnew q hq
      exact ⟨hmode, hholder, hkept⟩
    · obtain ⟨hfire, hfloor⟩ := (hride n tr htr).resolve_left fun ⟨q, hq⟩ => hnew q hq
      exact ⟨hfire, hfloor, hkept⟩

end

end Sys2Proof.Machine
end
